-- ==== Sys2Proof/Word.lean ====
section
/-! DEFINITION. The words the block moves: the widths of 00_scope.md R6 and R8. -/

namespace Sys2Proof

/-- A u8: one byte of a datagram or of a serial line (00_scope.md R9). -/
abbrev Byte := BitVec 8

/-- A u16: one raw or decoded sample word (30_encoding.md R89, R92). -/
abbrev Word := BitVec 16

/-- A u32: a register or a U32 argument (00_scope.md R6, "register width"). -/
abbrev U32 := BitVec 32

/-- A u64 count of ticks: the time input `now` and the stored time stamps (10_state.md R22).
Sums and comparisons of times are made on `toNat` (00_scope.md R8). -/
abbrev Time := BitVec 64

end Sys2Proof
end

