-- ==== Sys2Proof/Config.lean ====
section
/-! DEFINITION. The implementation parameters of 00_scope.md R6 and the free values of the model.
The OPEN parameters are plain data that a machine carries in its state, so that a statement for every
state is a statement for every choice of them (DESIGN CHOICE, notes/assumptions/3.md). -/

namespace Sys2Proof

/-- The OPEN parameters of 00_scope.md R6, fixed when a machine is built. -/
structure Config where
  /-- TICKS_PER_SECOND: the rate of `now` (D6). -/
  ticksPerSecond : Nat
  /-- MAX_PENDING: capacity of the pending store; `none` is INF, the reference behaviour (D14). -/
  maxPending : Option Nat
  /-- MAX_FRAME_SAMPLES: the largest samples-per-frame value (D10). -/
  maxFrameSamples : Nat
  /-- OUT_DEPTH: capacity of the output channel in frames (D20). -/
  outDepth : Nat
  /-- MAX_LINE: capacity of the receive line buffer, and the longest transmit line (D24). -/
  maxLine : Nat
  /-- MAX_CFG_BYTES: the longest configuration text (D28). -/
  maxCfgBytes : Nat
deriving DecidableEq, Repr

/-- The constraints 00_scope.md R6 puts on the OPEN parameters. -/
def Config.wf (c : Config) : Bool :=
  decide (1 ≤ c.ticksPerSecond) && decide (∀ n ∈ c.maxPending, 1 ≤ n) &&
    decide (4 ≤ c.maxFrameSamples) && decide (1 ≤ c.outDepth) && decide (19 ≤ c.maxLine) &&
    decide (1 ≤ c.maxCfgBytes)

/-- The default parameters of 95_test_vectors.md. DESIGN CHOICE for `State.reset`
(notes/assumptions/3.md): the spec leaves them OPEN, and no statement rests on these numbers. -/
def Config.vectors : Config where
  ticksPerSecond := 1000
  maxPending := none
  maxFrameSamples := 4096
  outDepth := 4
  maxLine := 64
  maxCfgBytes := 4096

/-- MAX_DATAGRAM, the largest data datagram in bytes (00_scope.md R6). -/
def maxDatagram : Nat := 4096

/-- HDR_BYTES, the header of a data datagram in bytes (00_scope.md R6). -/
def hdrBytes : Nat := 10

/-- What OUT_LEVEL reads when `len(outq)` does not fit in 32 bits. FREE VALUE: 10_state.md R34 says
that the register "reads `len(outq)`" and, unlike for PENDING, names no saturation
(DESIGN CHOICE, notes/assumptions/9.md). -/
opaque Config.freeOutLevel : Nat → U32

/-- The u32 number of a configuration line whose position does not fit in 32 bits. FREE VALUE:
10_state.md R20 gives the number 32 bits and MAX_CFG_BYTES has no upper bound
(DESIGN CHOICE, notes/assumptions/10.md). -/
opaque Config.freeLineNumber : Nat → U32

end Sys2Proof
end

