-- ==== Sys2Proof/Syntax.lean ====
section
/-! DEFINITION. Operations as the block's ports present them: the 19 rows of spec/opcode_table.json,
the five argument kinds (30_encoding.md R83) and the triple `(cmd, arg, now)` (R80). -/

namespace Sys2Proof

/-- The argument kinds of 30_encoding.md R83. -/
inductive ArgKind where
  | none
  | u8
  | u32
  | bytes
  | words
deriving DecidableEq, Repr

/-- An argument of one of the five kinds (30_encoding.md R80). -/
inductive Arg where
  | none
  | u8 (b : Byte)
  | u32 (v : U32)
  | bytes (d : List Byte)
  | words (w : List Word)
deriving DecidableEq, Repr

/-- An operation with its operands: the REG field where the command word has one, and the argument.
One constructor per row of the opcode map, 30_encoding.md R85, in its order. A REG field is any 8-bit
value: the operation itself checks the index (44_control.md R211, R213). -/
inductive Instr where
  | nop
  | regRd (reg : BitVec 8)
  | regWr (reg : BitVec 8) (v : U32)
  | tick
  | pipeStart
  | pipeStop
  | pktIn (d : List Byte)
  | evict (timeout : U32)
  | framePop
  | unswizzle (w : List Word)
  | reshape (w : List Word)
  | signconv (w : List Word)
  | decodeFrame (w : List Word)
  | cliSend (line : List Byte)
  | cliSendConfig (text : List Byte)
  | cliStart
  | cliStop
  | cliClose
  | cliRxByte (b : Byte)
deriving DecidableEq, Repr

/-- An operation as it is presented: command word, argument and time input (30_encoding.md R80). -/
structure Operation where
  cmd : U32
  arg : Arg
  now : Time
deriving DecidableEq, Repr

/-- What can reach the block from outside: an operation of any agent, or the reset event, which is
"separate from the command port" (70_reset_and_hazards.md R270). -/
inductive Event where
  | op (o : Operation)
  | reset
deriving DecidableEq, Repr

end Sys2Proof
end

