-- ==== Sys2Proof/WellFormed.lean ====
section
/-! DEFINITION. Which presented command words are legal: the four checks of 30_encoding.md R82, each a
check of its own, written from the format table R81 and the opcode map R85.

Every term of `Instr` is a legal operation, since its operands have the widths of the format and an
index or length out of range is for the operation's own rule to reject; what can be ill formed is a
presented command word with its argument. -/

namespace Sys2Proof

/-- The OP field, bits [4:0] (30_encoding.md R81). -/
def Operation.opField (o : Operation) : BitVec 5 := o.cmd.extractLsb' 0 5

/-- The REG field, bits [15:8] (30_encoding.md R81). -/
def Operation.regField (o : Operation) : BitVec 8 := o.cmd.extractLsb' 8 8

/-- The kind of an argument. -/
def Arg.kind : Arg → ArgKind
  | .none => .none
  | .u8 _ => .u8
  | .u32 _ => .u32
  | .bytes _ => .bytes
  | .words _ => .words

/-- One row of the opcode map 30_encoding.md R85: OP value, argument kind, and whether the command
word has a REG field (R81). -/
structure OpRow where
  op : Nat
  arg : ArgKind
  hasReg : Bool
deriving DecidableEq, Repr

/-- The opcode map, 30_encoding.md R85. -/
def opcodeMap : List OpRow :=
  [⟨0x00, .none, false⟩, ⟨0x01, .none, true⟩, ⟨0x02, .u32, true⟩, ⟨0x03, .none, false⟩,
   ⟨0x04, .none, false⟩, ⟨0x05, .none, false⟩, ⟨0x06, .bytes, false⟩, ⟨0x07, .u32, false⟩,
   ⟨0x08, .none, false⟩, ⟨0x09, .words, false⟩] ++
  [⟨0x0A, .words, false⟩, ⟨0x0B, .words, false⟩, ⟨0x0C, .words, false⟩, ⟨0x0D, .bytes, false⟩,
   ⟨0x0E, .bytes, false⟩, ⟨0x0F, .none, false⟩, ⟨0x10, .none, false⟩, ⟨0x11, .none, false⟩,
   ⟨0x12, .u8, false⟩]

/-- The row of an OP value, if it is assigned. -/
def opRow (op : BitVec 5) : Option OpRow := opcodeMap.find? (fun r => r.op == op.toNat)

/-- Bits [31:16] and [7:5] are 0 (first check of 30_encoding.md R82). -/
def Operation.reservedClear (o : Operation) : Bool :=
  o.cmd.extractLsb' 16 16 == 0#16 && o.cmd.extractLsb' 5 3 == 0#3

/-- The OP value is assigned (second check of 30_encoding.md R82). -/
def Operation.opAssigned (o : Operation) : Bool := (opRow o.opField).isSome

/-- The REG field is 0 unless the operation has one (third check of 30_encoding.md R82). -/
def Operation.regAllowed (o : Operation) : Bool :=
  (opRow o.opField).any (fun r => r.hasReg) || o.regField == 0#8

/-- The argument has the operation's kind (fourth check of 30_encoding.md R82). -/
def Operation.argMatches (o : Operation) : Bool :=
  (opRow o.opField).any (fun r => r.arg == o.arg.kind)

/-- A presented operation is well formed when all four checks of 30_encoding.md R82 pass. -/
def Operation.wellFormed (o : Operation) : Bool :=
  o.reservedClear && o.opAssigned && o.regAllowed && o.argMatches

end Sys2Proof
end

