-- ==== Sys2Proof/Decode.lean ====
section
/-! DEFINITION. The command-word decoder, in the check order of 30_encoding.md R82, total on every
command word and argument and rejecting by name; and after it the encoder, from the same format
(R81) and opcode map (R85). -/

namespace Sys2Proof

/-- Why a presented operation is not decoded, one name per check of 30_encoding.md R82. The first
three raise ILLEGAL_COMMAND, the last BAD_ARGUMENT (60_exceptions.md R240). -/
inductive DecodeError where
  /-- a bit of cmd[31:16] or cmd[7:5] is 1 -/
  | reservedBits
  /-- OP is 0x13 to 0x1F -/
  | reservedOp
  /-- REG is not 0 and the operation has no REG field -/
  | strayReg
  /-- the argument's kind is not the operation's -/
  | wrongArgument
deriving DecidableEq, Repr

/-- True for the two operations whose command word has a REG field (30_encoding.md R81). -/
def hasRegField (op : Nat) : Bool := op == 0x01 || op == 0x02

/-- The operations whose argument is NONE (30_encoding.md R85). -/
def instrOfNone (op : Nat) (reg : BitVec 8) : Option Instr :=
  match op with
  | 0x00 => some .nop
  | 0x01 => some (.regRd reg)
  | 0x03 => some .tick
  | 0x04 => some .pipeStart
  | 0x05 => some .pipeStop
  | 0x08 => some .framePop
  | 0x0F => some .cliStart
  | 0x10 => some .cliStop
  | 0x11 => some .cliClose
  | _ => none

/-- The operations whose argument is a U32 (30_encoding.md R85). -/
def instrOfU32 (op : Nat) (reg : BitVec 8) (v : U32) : Option Instr :=
  match op with
  | 0x02 => some (.regWr reg v)
  | 0x07 => some (.evict v)
  | _ => none

/-- The operations whose argument is a BYTES (30_encoding.md R85). -/
def instrOfBytes (op : Nat) (d : List Byte) : Option Instr :=
  match op with
  | 0x06 => some (.pktIn d)
  | 0x0D => some (.cliSend d)
  | 0x0E => some (.cliSendConfig d)
  | _ => none

/-- The operations whose argument is a WORDS (30_encoding.md R85). -/
def instrOfWords (op : Nat) (w : List Word) : Option Instr :=
  match op with
  | 0x09 => some (.unswizzle w)
  | 0x0A => some (.reshape w)
  | 0x0B => some (.signconv w)
  | 0x0C => some (.decodeFrame w)
  | _ => none

/-- The operation of an OP value with its REG field and argument, if the argument has the kind that
the opcode map gives (30_encoding.md R85); CLI_RX_BYTE is the one whose argument is a U8. -/
def instrOf (op : Nat) (reg : BitVec 8) (arg : Arg) : Option Instr :=
  match arg with
  | .none => instrOfNone op reg
  | .u8 b => if op = 0x12 then some (.cliRxByte b) else none
  | .u32 v => instrOfU32 op reg v
  | .bytes d => instrOfBytes op d
  | .words w => instrOfWords op w

/-- The command-word decode of 30_encoding.md R82: reserved bits, OP range, REG field, argument kind,
the first failing check deciding. -/
def decode (cmd : U32) (arg : Arg) : Except DecodeError Instr :=
  let op := (cmd.extractLsb' 0 5).toNat
  let reg := cmd.extractLsb' 8 8
  if cmd.extractLsb' 16 16 ≠ 0#16 ∨ cmd.extractLsb' 5 3 ≠ 0#3 then .error .reservedBits
  else if 0x13 ≤ op then .error .reservedOp
  else if hasRegField op = false ∧ reg ≠ 0#8 then .error .strayReg
  else
    match instrOf op reg arg with
    | some i => .ok i
    | none => .error .wrongArgument

/-- An argument of zeros of the kind an OP value takes: what a command word alone, with nothing in its
operand, stands for (notes/assumptions/2.md). -/
def zeroArg (op : Nat) : Arg :=
  match op with
  | 0x02 => .u32 0#32
  | 0x06 => .bytes []
  | 0x07 => .u32 0#32
  | 0x09 => .words []
  | 0x0A => .words []
  | 0x0B => .words []
  | 0x0C => .words []
  | 0x0D => .bytes []
  | 0x0E => .bytes []
  | 0x12 => .u8 0#8
  | _ => .none

/-- The command word held by the low `nbits` bits of `w` (spec/opcode_table.json numbers bit 0 as the
least significant bit of the one 32-bit word). -/
def wordOfTable (nbits w : Nat) : U32 := BitVec.ofNat 32 (w % 2 ^ nbits)

/-- What the decoder reads from a row of spec/opcode_table.json, its argument being of zeros. -/
def decodeTableWord (nbits w : Nat) : Option Instr :=
  let cmd := wordOfTable nbits w
  match decode cmd (zeroArg (cmd.extractLsb' 0 5).toNat) with
  | .ok i => some i
  | .error _ => none

/-- The command word of OP `op` with REG field `reg`: `(reg << 8) | op` (30_encoding.md R85). -/
def commandWord (op : BitVec 5) (reg : BitVec 8) : U32 :=
  (reg.setWidth 32 <<< 8) ||| op.setWidth 32

/-- The command word and argument of an operation (30_encoding.md R81, R85). -/
def encode : Instr → U32 × Arg
  | .nop => (commandWord 0x00#5 0#8, .none)
  | .regRd reg => (commandWord 0x01#5 reg, .none)
  | .regWr reg v => (commandWord 0x02#5 reg, .u32 v)
  | .tick => (commandWord 0x03#5 0#8, .none)
  | .pipeStart => (commandWord 0x04#5 0#8, .none)
  | .pipeStop => (commandWord 0x05#5 0#8, .none)
  | .pktIn d => (commandWord 0x06#5 0#8, .bytes d)
  | .evict v => (commandWord 0x07#5 0#8, .u32 v)
  | .framePop => (commandWord 0x08#5 0#8, .none)
  | .unswizzle w => (commandWord 0x09#5 0#8, .words w)
  | .reshape w => (commandWord 0x0A#5 0#8, .words w)
  | .signconv w => (commandWord 0x0B#5 0#8, .words w)
  | .decodeFrame w => (commandWord 0x0C#5 0#8, .words w)
  | .cliSend d => (commandWord 0x0D#5 0#8, .bytes d)
  | .cliSendConfig d => (commandWord 0x0E#5 0#8, .bytes d)
  | .cliStart => (commandWord 0x0F#5 0#8, .none)
  | .cliStop => (commandWord 0x10#5 0#8, .none)
  | .cliClose => (commandWord 0x11#5 0#8, .none)
  | .cliRxByte b => (commandWord 0x12#5 0#8, .u8 b)

/-- The operation that presents `i` at time `now` (30_encoding.md R80). -/
def present (i : Instr) (now : Time) : Operation := ⟨(encode i).1, (encode i).2, now⟩

end Sys2Proof
end

