-- ==== Sys2Proof/Machine/State.lean ====
section
/-! DEFINITION. The state of the block, 10_state.md R20 to R42, as plain data; its faults and refusals;
its responses; and its reset value. -/

namespace Sys2Proof.Machine

/-- `pipe_state` (10_state.md R37). -/
inductive PipeState where
  | idle
  | running
  | publishBlocked
  | stopped
deriving DecidableEq, Repr

/-- `stop_reason` (10_state.md R37). -/
inductive StopReason where
  | none
  | stopRequested
  | protocolTimeout
  | malformedPacket
deriving DecidableEq, Repr

/-- `cli_state` (10_state.md R39). -/
inductive CliState where
  | idle
  | wait
  | closed
deriving DecidableEq, Repr

/-- `cli_job` (10_state.md R39). -/
inductive CliJob where
  | none
  | send
  | config
  | start
  | stop
  | close
deriving DecidableEq, Repr

/-- `cli_outcome` (10_state.md R39). -/
inductive CliOutcome where
  | none
  | acknowledged
  | timedOut
  | rejected
deriving DecidableEq, Repr

/-- `cli_result` (10_state.md R39). -/
inductive CliResult where
  | none
  | success
  | fail
deriving DecidableEq, Repr

/-- The error codes of 60_exceptions.md R240, in its order. -/
inductive ErrorCode where
  | illegalCommand
  | illegalState
  | badArgument
  | configInvalid
  | malformedPacket
  | protocolTimeout
  | invalidBlockLength
  | pendingOverflow
  | outputDrop
  | configRejected
  | cliBusy
  | portClosed
  | lineOverflow
  | regReadOnly
deriving DecidableEq, Repr

/-- The registers of the register map (10_state.md R24), in its order. -/
inductive Reg where
  | id
  | status
  | err
  | ctrl
  | numTx
  | numRx
  | numAdc
  | numLoops
  | framePeriod
  | cliTimeout
  | readTimeout
  | spf
  | pending
  | outLevel
  | lastSeq
  | evictTotal
  | outDropTotal
  | discardTotal
  | framesOutTotal
  | cliCfgLine
deriving DecidableEq, Repr

/-- The access kinds of 10_state.md R23. -/
inductive Access where
  | ro
  | rw
  | w1c
  | lock
deriving DecidableEq, Repr

/-- The kind of a response (30_encoding.md R84). -/
inductive RespKind where
  | ok
  | hold
  | err
deriving DecidableEq, Repr

/-- The data of a response: what the operation's rule names (30_encoding.md R84). -/
inductive RespData where
  | none
  /-- a register (44_control.md R211, R214) -/
  | u32 (v : U32)
  /-- a word array (42_rdif_decoder.md R140) -/
  | words (w : List Word)
  /-- a list of frame ids (41_reassembly.md R120) -/
  | fids (l : List Nat)
  /-- the emitted and the evicted frame ids of a datagram (41_reassembly.md R111) -/
  | packet (emitted evicted : List Nat)
  /-- a frame with its id (44_control.md R218) -/
  | frame (fid : Nat) (words : List Word)
deriving DecidableEq, Repr

/-- A response `(kind, code, data)` (30_encoding.md R84). -/
structure Response where
  kind : RespKind
  code : BitVec 8
  data : RespData
deriving DecidableEq, Repr

/-- A pending entry, the document's PartialFrame (10_state.md R36). `slots` is `buf` and `mask` in one:
position q holds `some w` when mask bit q is 1 and `buf[q]` is w, and `none` when mask bit q is 0, in
which case `buf[q]` "holds no defined value and no rule reads it" (DEDUCED, notes/assumptions/7.md). -/
structure Entry where
  slots : List (Option Word)
  firstSeen : Time
deriving DecidableEq, Repr

/-- The pending store: a finite map from frame id to entry (10_state.md R36), as a list whose frame ids
rise strictly (notes/assumptions/8.md). -/
abbrev Store := List (Nat × Entry)

/-- An element of `outq` and of `holdq`: a frame id and a decoded frame (10_state.md R38). -/
structure OutFrame where
  fid : Nat
  frame : List Word
deriving DecidableEq, Repr

/-- A forwardable line of the configuration text with its 1-based line number (43_cli_fsm.md R180). -/
structure CfgLine where
  number : U32
  bytes : List Byte
deriving DecidableEq, Repr

/-- No operation of the block faults: an error is an ERR response or a sticky bit of ERR, and the block
goes on (60_exceptions.md R242 to R244). So there is no fault to name (notes/assumptions/19.md). -/
inductive Fault where
deriving DecidableEq, Repr

/-- Why the machine has no next state. -/
inductive Refusal where
  /-- Raised by an arm of `exec` for an operation that has no meaning yet; safe. No arm raises it. -/
  | notModelled (mnemonic : String)
  /-- Raised by `step` when the presented `now` is smaller than that of the operation before it, which is
  "outside the block's domain: a model may refuse it" (70_reset_and_hazards.md R285,
  93_implementation_defined.md U2); safe. -/
  | timeReversed
deriving DecidableEq, Repr

/-- The whole state: the parameters and ports of the model, then the state of the units U4, U1 and U3
(10_state.md R20; U2 holds none). -/
structure State where
  /-- the OPEN parameters (00_scope.md R6); the model's own field, never written -/
  cfg : Config
  /-- the operations and reset events still to be presented (20_memory.md R66); the model's own field -/
  input : List Event
  /-- the time input of the current operation, sampled once (10_state.md R22); the model's own field -/
  now : Time
  /-- the responses given so far (30_encoding.md R84); the model's own field -/
  responses : List Response
  /-- the bytes put on the serial transmit port so far (30_encoding.md R96); the model's own field -/
  tx : List Byte
  /-- ERR, sticky error bits (10_state.md R33) -/
  err : U32
  /-- CTRL, completion and back-pressure policy (10_state.md R26) -/
  ctrl : U32
  /-- NUM_TX, T (10_state.md R27) -/
  numTx : U32
  /-- NUM_RX, R (10_state.md R27) -/
  numRx : U32
  /-- NUM_ADC, A (10_state.md R27) -/
  numAdc : U32
  /-- NUM_LOOPS, L (10_state.md R27) -/
  numLoops : U32
  /-- FRAME_PERIOD (10_state.md R29) -/
  framePeriod : U32
  /-- CLI_TIMEOUT (10_state.md R30) -/
  cliTimeout : U32
  /-- READ_TIMEOUT (10_state.md R31) -/
  readTimeout : U32
  /-- LAST_SEQ (10_state.md R34) -/
  lastSeq : U32
  /-- EVICT_TOTAL (10_state.md R34) -/
  evictTotal : U32
  /-- OUT_DROP_TOTAL (10_state.md R34) -/
  outDropTotal : U32
  /-- DISCARD_TOTAL (10_state.md R34) -/
  discardTotal : U32
  /-- FRAMES_OUT_TOTAL (10_state.md R34) -/
  framesOutTotal : U32
  /-- `pipe_state` (10_state.md R37) -/
  pipeState : PipeState
  /-- `stop_reason` (10_state.md R37) -/
  stopReason : StopReason
  /-- `stop_req` (10_state.md R37) -/
  stopReq : Bool
  /-- `last_pkt_time` (10_state.md R37) -/
  lastPktTime : Time
  /-- `outq`, oldest first (10_state.md R38) -/
  outq : List OutFrame
  /-- `holdq`, in emission order (10_state.md R38) -/
  holdq : List OutFrame
  /-- `pending` (10_state.md R36) -/
  pending : Store
  /-- `cli_state` (10_state.md R39) -/
  cliState : CliState
  /-- `cli_job` (10_state.md R39) -/
  cliJob : CliJob
  /-- `cli_outcome` (10_state.md R39) -/
  cliOutcome : CliOutcome
  /-- `cli_result` (10_state.md R39) -/
  cliResult : CliResult
  /-- `cli_deadline`, an unbounded sum (43_cli_fsm.md R174; DEDUCED, notes/assumptions/6.md) -/
  cliDeadline : Nat
  /-- `rx_buf` (10_state.md R39) -/
  rxBuf : List Byte
  /-- `cfg_lines` (10_state.md R39) -/
  cfgLines : List CfgLine
  /-- `cfg_idx` (10_state.md R39) -/
  cfgIdx : Nat
deriving DecidableEq, Repr

/-- The block built with parameters `c`, right after reset: every element at its value in
10_state.md R42. -/
def State.resetWith (c : Config) : State where
  cfg := c
  input := []
  now := 0#64
  responses := []
  tx := []
  err := 0#32
  ctrl := 1#32
  numTx := 0#32
  numRx := 0#32
  numAdc := 0#32
  numLoops := 0#32
  framePeriod := 0#32
  cliTimeout := BitVec.ofNat 32 (min (2 * c.ticksPerSecond) 0xFFFFFFFF)
  readTimeout := BitVec.ofNat 32 (min c.ticksPerSecond 0xFFFFFFFF)
  lastSeq := 0#32
  evictTotal := 0#32
  outDropTotal := 0#32
  discardTotal := 0#32
  framesOutTotal := 0#32
  pipeState := .idle
  stopReason := .none
  stopReq := false
  lastPktTime := 0#64
  outq := []
  holdq := []
  pending := []
  cliState := .idle
  cliJob := .none
  cliOutcome := .none
  cliResult := .none
  cliDeadline := 0
  rxBuf := []
  cfgLines := []
  cfgIdx := 0

/-- The machine right after reset, built with the default parameters of 95_test_vectors.md
(DESIGN CHOICE, notes/assumptions/3.md). -/
def State.reset : State := State.resetWith Config.vectors

end Sys2Proof.Machine
end

