-- ==== Sys2Proof/Machine/Flags.lean ====
section
/-! DEFINITION. The encodings of the flag-like registers: error codes and ERR bits (10_state.md R33,
60_exceptions.md R240), the fields of STATUS (10_state.md R32), the bits of CTRL (R26), and the codes
of a response (30_encoding.md R84). -/

namespace Sys2Proof.Machine

/-- The 8-bit code of an error (60_exceptions.md R240). -/
def errorCode : ErrorCode → Nat
  | .illegalCommand => 1
  | .illegalState => 2
  | .badArgument => 3
  | .configInvalid => 4
  | .malformedPacket => 5
  | .protocolTimeout => 6
  | .invalidBlockLength => 7
  | .pendingOverflow => 8
  | .outputDrop => 9
  | .configRejected => 10
  | .cliBusy => 11
  | .portClosed => 12
  | .lineOverflow => 13
  | .regReadOnly => 14

/-- The sticky bit of an error: bit `code - 1` of ERR (10_state.md R33, 60_exceptions.md R243). -/
def errorBit (e : ErrorCode) : U32 := 1#32 <<< (errorCode e - 1)

/-- The error a rejected command word raises (30_encoding.md R82). -/
def decodeErrorCode : DecodeError → ErrorCode
  | .reservedBits => .illegalCommand
  | .reservedOp => .illegalCommand
  | .strayReg => .illegalCommand
  | .wrongArgument => .badArgument

/-- STATUS.PIPE_STATE (10_state.md R32). -/
def pipeStateField : PipeState → BitVec 2
  | .idle => 0#2
  | .running => 1#2
  | .publishBlocked => 2#2
  | .stopped => 3#2

/-- STATUS.STOP_REASON (10_state.md R32). -/
def stopReasonField : StopReason → BitVec 2
  | .none => 0#2
  | .stopRequested => 1#2
  | .protocolTimeout => 2#2
  | .malformedPacket => 3#2

/-- STATUS.CLI_STATE (10_state.md R32). -/
def cliStateField : CliState → BitVec 2
  | .idle => 0#2
  | .wait => 1#2
  | .closed => 2#2

/-- STATUS.CLI_JOB (10_state.md R32). -/
def cliJobField : CliJob → BitVec 3
  | .none => 0#3
  | .send => 1#3
  | .config => 2#3
  | .start => 3#3
  | .stop => 4#3
  | .close => 5#3

/-- STATUS.CLI_OUTCOME (10_state.md R32). -/
def cliOutcomeField : CliOutcome → BitVec 2
  | .none => 0#2
  | .acknowledged => 1#2
  | .timedOut => 2#2
  | .rejected => 3#2

/-- STATUS.CLI_RESULT (10_state.md R32). -/
def cliResultField : CliResult → BitVec 2
  | .none => 0#2
  | .success => 1#2
  | .fail => 2#2

/-- STATUS as it is read: the fields of 10_state.md R32 from bit 31 down to bit 0. -/
def State.statusWord (s : State) : U32 :=
  BitVec.ofNat 16 (min s.outq.length 0xFFFF) ++ 0#2 ++ cliResultField s.cliResult ++
    cliOutcomeField s.cliOutcome ++ cliJobField s.cliJob ++ cliStateField s.cliState ++
    BitVec.ofBool s.stopReq ++ stopReasonField s.stopReason ++ pipeStateField s.pipeState

/-- CTRL.COMPL_ALL, bit 0 (10_state.md R26). -/
def State.complAll (s : State) : Bool := s.ctrl.getLsbD 0

/-- CTRL.DROP_OLDEST, bit 1 (10_state.md R26). -/
def State.dropOldest (s : State) : Bool := s.ctrl.getLsbD 1

/-- The code of a response kind (30_encoding.md R84). -/
def respKindCode : RespKind → Nat
  | .ok => 0
  | .hold => 1
  | .err => 2

/-- An OK response: code 0 and the data the operation's rule names (30_encoding.md R84). -/
def okResponse (d : RespData) : Response := ⟨.ok, 0#8, d⟩

/-- A HOLD response: code 0, no data (30_encoding.md R84). -/
def holdResponse : Response := ⟨.hold, 0#8, .none⟩

/-- An ERR response: the error code, no data (30_encoding.md R84, 60_exceptions.md R241). -/
def errResponse (e : ErrorCode) : Response := ⟨.err, BitVec.ofNat 8 (errorCode e), .none⟩

end Sys2Proof.Machine
end

