-- ==== Sys2Proof/Machine/Operands.lean ====
section
/-! DEFINITION. How operands are read: register indices (10_state.md R24), the fields of a data datagram
(30_encoding.md R86 to R89, 41_reassembly.md R112, R113), and the lines of a configuration text
(43_cli_fsm.md R179, R180) or of the serial port (30_encoding.md R93 to R95). -/

namespace Sys2Proof.Machine

/-- The register of an index, 0x00 to 0x13; 0x14 to 0xFF are reserved (10_state.md R24). -/
def regOfIndex (i : BitVec 8) : Option Reg :=
  match i.toNat with
  | 0x00 => some .id
  | 0x01 => some .status
  | 0x02 => some .err
  | 0x03 => some .ctrl
  | 0x04 => some .numTx
  | 0x05 => some .numRx
  | 0x06 => some .numAdc
  | 0x07 => some .numLoops
  | 0x08 => some .framePeriod
  | 0x09 => some .cliTimeout
  | 0x0A => some .readTimeout
  | 0x0B => some .spf
  | 0x0C => some .pending
  | 0x0D => some .outLevel
  | 0x0E => some .lastSeq
  | 0x0F => some .evictTotal
  | 0x10 => some .outDropTotal
  | 0x11 => some .discardTotal
  | 0x12 => some .framesOutTotal
  | 0x13 => some .cliCfgLine
  | _ => none

/-- The access kind of a register (10_state.md R24). -/
def regAccess : Reg → Access
  | .id => .ro
  | .status => .ro
  | .err => .w1c
  | .ctrl => .lock
  | .numTx => .lock
  | .numRx => .lock
  | .numAdc => .lock
  | .numLoops => .lock
  | .framePeriod => .lock
  | .cliTimeout => .rw
  | .readTimeout => .lock
  | .spf => .ro
  | .pending => .ro
  | .outLevel => .ro
  | .lastSeq => .ro
  | .evictTotal => .ro
  | .outDropTotal => .ro
  | .discardTotal => .ro
  | .framesOutTotal => .ro
  | .cliCfgLine => .ro

/-! ### Data datagrams -/

/-- Byte i of a datagram (the `MemRead` of 00_scope.md R10). -/
def byteAt (d : List Byte) (i : Nat) : Byte := d.getD i 0#8

/-- A datagram is malformed: shorter than its header, longer than MAX_DATAGRAM, or with an odd payload
(41_reassembly.md R113). -/
def malformed (d : List Byte) : Bool :=
  decide (d.length < hdrBytes) || decide (maxDatagram < d.length) ||
    decide ((d.length - hdrBytes) % 2 ≠ 0)

/-- The packet sequence number: bytes 0 to 3, little-endian, two's complement (30_encoding.md R87). -/
def packetSeq (d : List Byte) : Int :=
  (byteAt d 3 ++ byteAt d 2 ++ byteAt d 1 ++ byteAt d 0).toInt

/-- The cumulative byte offset: bytes 4 to 9, big-endian, 48 bits (30_encoding.md R88). -/
def packetOffset (d : List Byte) : Nat :=
  (byteAt d 4 ++ byteAt d 5 ++ byteAt d 6 ++ byteAt d 7 ++ byteAt d 8 ++ byteAt d 9).toNat

/-- Little-endian u16 words of a byte string of even length (30_encoding.md R89). -/
def wordsOfBytes : List Byte → List Word
  | lo :: hi :: rest => (hi ++ lo) :: wordsOfBytes rest
  | _ => []

/-- The payload of a datagram (30_encoding.md R89). -/
def packetPayload (d : List Byte) : List Word := wordsOfBytes (d.drop hdrBytes)

/-- The sample offset of a datagram, `off >> 1`: bit 0 of the byte offset is ignored
(41_reassembly.md R112). -/
def sampleOffset (d : List Byte) : Nat := packetOffset d / 2

/-! ### Lines of text -/

/-- LF (00_scope.md R9, 30_encoding.md R95). -/
def byteLF : Byte := 0x0A#8

/-- CR (00_scope.md R9, 30_encoding.md R95). -/
def byteCR : Byte := 0x0D#8

/-- SP or TAB (43_cli_fsm.md R180, 30_encoding.md R95). -/
def isSpace (b : Byte) : Bool := b == 0x20#8 || b == 0x09#8

/-- The comment marker `%` (43_cli_fsm.md R180, 30_encoding.md R95). -/
def bytePercent : Byte := 0x25#8

/-- The lines of a text, split at every LF; a text that ends with LF, and an empty text, has no line
after its last LF (43_cli_fsm.md R179). -/
def splitLines : List Byte → List (List Byte)
  | [] => []
  | b :: rest =>
    if b = byteLF then [] :: splitLines rest
    else
      match splitLines rest with
      | [] => [[b]]
      | l :: ls => (b :: l) :: ls

/-- A line less one trailing CR, if it has one (43_cli_fsm.md R179). -/
def dropTrailingCR (l : List Byte) : List Byte :=
  if l.getLast? = some byteCR then l.dropLast else l

/-- A line is blank when every byte of it is SP or TAB (43_cli_fsm.md R180). -/
def isBlank (l : List Byte) : Bool := l.all isSpace

/-- A line is a comment when its first byte that is not SP or TAB is `%` (43_cli_fsm.md R180). -/
def isComment (l : List Byte) : Bool := (l.dropWhile isSpace).head? == some bytePercent

/-- Every line that is neither blank nor a comment is forwardable (43_cli_fsm.md R180). -/
def isForwardable (l : List Byte) : Bool := !isBlank l && !isComment l

/-- The u32 number of the line at 1-based position n (10_state.md R20); a free value where it does not
fit in 32 bits (notes/assumptions/10.md). -/
def lineNumber (n : Nat) : U32 :=
  if n < 2 ^ 32 then BitVec.ofNat 32 n else Config.freeLineNumber n

/-- The lines of a text from position n on, each with its number, the forwardable ones kept
(43_cli_fsm.md R180). -/
def numberedForwardable (n : Nat) : List (List Byte) → List CfgLine
  | [] => []
  | l :: ls =>
    let line := dropTrailingCR l
    if isForwardable line then ⟨lineNumber n, line⟩ :: numberedForwardable (n + 1) ls
    else numberedForwardable (n + 1) ls

/-- The forwardable lines of a configuration text, in order; the numbers start at 1 and count every
line (43_cli_fsm.md R179, R180). -/
def forwardableLines (t : List Byte) : List CfgLine := numberedForwardable 1 (splitLines t)

/-- The byte string k occurs in s as a contiguous subsequence (`contains`, 00_scope.md R9). -/
def containsBytes (s k : List Byte) : Bool :=
  match s with
  | [] => k.isEmpty
  | b :: rest => k.isPrefixOf (b :: rest) || containsBytes rest k

/-- `b"Done"` (30_encoding.md R95). -/
def keywordDone : List Byte := [0x44#8, 0x6F#8, 0x6E#8, 0x65#8]

/-- `b"Error"` (30_encoding.md R95). -/
def keywordError : List Byte := [0x45#8, 0x72#8, 0x72#8, 0x6F#8, 0x72#8]

/-- `match(line)` (43_cli_fsm.md R172): a line with "Error" is rejected, else one with "Done" is an
acknowledgement, else nothing. -/
def matchLine (line : List Byte) : CliOutcome :=
  if containsBytes line keywordError then .rejected
  else if containsBytes line keywordDone then .acknowledged
  else .none

/-- `b"sensorStart 0 0 0 0"`, 19 bytes (30_encoding.md R94). -/
def lineSensorStart : List Byte :=
  [0x73#8, 0x65#8, 0x6E#8, 0x73#8, 0x6F#8, 0x72#8, 0x53#8, 0x74#8, 0x61#8, 0x72#8, 0x74#8] ++
    [0x20#8, 0x30#8, 0x20#8, 0x30#8, 0x20#8, 0x30#8, 0x20#8, 0x30#8]

/-- `b"sensorStop 0"`, 12 bytes (30_encoding.md R94). -/
def lineSensorStop : List Byte :=
  [0x73#8, 0x65#8, 0x6E#8, 0x73#8, 0x6F#8, 0x72#8, 0x53#8, 0x74#8, 0x6F#8, 0x70#8, 0x20#8, 0x30#8]

/-- A command line is valid when it holds no LF and fits in MAX_LINE (43_cli_fsm.md R173). -/
def validLine (c : Config) (line : List Byte) : Bool :=
  !line.contains byteLF && decide (line.length ≤ c.maxLine)

end Sys2Proof.Machine
end

