-- ==== Sys2Proof/Machine/Ops.lean ====
section
/-! DEFINITION. The named operations every meaning is written over: responses and errors
(60_exceptions.md R242, R243), the transmit port, the register file (10_state.md R23 to R35), and the
reset event (70_reset_and_hazards.md R270). -/

namespace Sys2Proof.Machine

/-! ### Responses and errors -/

/-- Give a response: it is appended to the responses given so far (30_encoding.md R84). -/
def State.answer (s : State) (r : Response) : State := { s with responses := s.responses ++ [r] }

/-- `respond(OK, data)` (00_scope.md R10). -/
def State.respond (s : State) (d : RespData) : State := s.answer (okResponse d)

/-- `respond(HOLD, NONE)` (00_scope.md R10, 30_encoding.md R84). -/
def State.hold (s : State) : State := s.answer holdResponse

/-- `set_err(E)`: set the sticky bit and go on (60_exceptions.md R243). -/
def State.setErr (s : State) (e : ErrorCode) : State := { s with err := s.err ||| errorBit e }

/-- `raise E`: the one way an operation ends in an error. It sets the sticky bit and responds
`(ERR, E, NONE)`; it saves nothing, changes no mode and transfers control nowhere
(60_exceptions.md R241, R242, R244), so there is no return from it (R247). -/
def State.raise (s : State) (e : ErrorCode) : State := (s.setErr e).answer (errResponse e)

/-- `emit_tx(b)`: append to the serial transmit port (30_encoding.md R96). -/
def State.emitTx (s : State) (b : List Byte) : State := { s with tx := s.tx ++ b }

/-! ### Geometry -/

/-- S, samples per frame: L × T × R × A on unbounded integers (10_state.md R28). -/
def State.samplesPerFrame (s : State) : Nat :=
  s.numLoops.toNat * s.numTx.toNat * s.numRx.toNat * s.numAdc.toNat

/-- `geometry_valid()` (44_control.md R216). -/
def State.geometryValid (s : State) : Bool :=
  decide (1 ≤ s.numTx.toNat) && decide (1 ≤ s.numRx.toNat) && decide (1 ≤ s.numAdc.toNat) &&
    decide (1 ≤ s.numLoops.toNat) && decide (s.samplesPerFrame ≤ s.cfg.maxFrameSamples)

/-! ### Registers -/

/-- ID reads the constant 0x52444946 (10_state.md R25). -/
def idValue : U32 := 0x52444946#32

/-- A count saturated to 32 bits (10_state.md R28, R34). -/
def saturate32 (n : Nat) : U32 := BitVec.ofNat 32 (min n 0xFFFFFFFF)

/-- OUT_LEVEL reads `len(outq)` (10_state.md R34); a free value where the length does not fit in
32 bits (notes/assumptions/9.md). -/
def State.outLevel (s : State) : U32 :=
  if s.outq.length < 2 ^ 32 then BitVec.ofNat 32 s.outq.length
  else Config.freeOutLevel s.outq.length

/-- CLI_CFG_LINE: the number of line `cfg_lines[cfg_idx]` while a CONFIG job waits or after it failed,
else 0 (10_state.md R35, 43_cli_fsm.md R183). A cursor outside the lines reads 0
(notes/assumptions/12.md). -/
def State.cfgLineNumber (s : State) : U32 :=
  if s.cliJob = .config ∧ (s.cliState = .wait ∨ s.cliResult = .fail) then
    match s.cfgLines[s.cfgIdx]? with
    | some l => l.number
    | none => 0#32
  else 0#32

/-- The value a register reads; a read has no side effect (10_state.md R24 to R35,
20_memory.md R64). -/
def State.readReg (s : State) : Reg → U32
  | .id => idValue
  | .status => s.statusWord
  | .err => s.err
  | .ctrl => s.ctrl
  | .numTx => s.numTx
  | .numRx => s.numRx
  | .numAdc => s.numAdc
  | .numLoops => s.numLoops
  | .framePeriod => s.framePeriod
  | .cliTimeout => s.cliTimeout
  | .readTimeout => s.readTimeout
  | .spf => saturate32 s.samplesPerFrame
  | .pending => saturate32 s.pending.length
  | .outLevel => s.outLevel
  | .lastSeq => s.lastSeq
  | .evictTotal => s.evictTotal
  | .outDropTotal => s.outDropTotal
  | .discardTotal => s.discardTotal
  | .framesOutTotal => s.framesOutTotal
  | .cliCfgLine => s.cfgLineNumber

/-- The stores of REG_WR by register: W1C for ERR, the masks of the reserved fields, 32 bits for the
rest (44_control.md R213). An RO register is not written. -/
def State.writeReg (s : State) (r : Reg) (v : U32) : State :=
  match r with
  | .err => { s with err := s.err &&& ~~~(v &&& 0x00003FFF#32) }
  | .ctrl => { s with ctrl := v &&& 0x00000003#32 }
  | .numTx => { s with numTx := v &&& 0x0000FFFF#32 }
  | .numRx => { s with numRx := v &&& 0x0000FFFF#32 }
  | .numAdc => { s with numAdc := v &&& 0x0000FFFF#32 }
  | .numLoops => { s with numLoops := v &&& 0x0000FFFF#32 }
  | .framePeriod => { s with framePeriod := v }
  | .cliTimeout => { s with cliTimeout := v }
  | .readTimeout => { s with readTimeout := v }
  | .id => s
  | .status => s
  | .spf => s
  | .pending => s
  | .outLevel => s
  | .lastSeq => s
  | .evictTotal => s
  | .outDropTotal => s
  | .discardTotal => s
  | .framesOutTotal => s
  | .cliCfgLine => s

/-! ### Reset -/

/-- The reset event: every element of 10_state.md R20 takes its reset value (70_reset_and_hazards.md
R270). The parameters do not change, nothing is emitted and no response is given; the operations still
to come, and the time of the last one, are the outside world's and stay (notes/assumptions/14.md). -/
def State.applyReset (s : State) : State :=
  { State.resetWith s.cfg with
    input := s.input, now := s.now, responses := s.responses, tx := s.tx }

end Sys2Proof.Machine
end

