-- ==== Sys2Proof/Machine/CliFsm.lean ====
section
/-! DEFINITION. The shared functions of unit U3: the SEND step, the end of a WAIT, the configuration job,
and the CLI time-out check (43_cli_fsm.md R170 to R189). -/

namespace Sys2Proof.Machine

/-- `send_line`: transmit the line with its LF, set the deadline from CLI_TIMEOUT as it is now, and wait
(43_cli_fsm.md R174). -/
def State.sendLine (s : State) (line : List Byte) : State :=
  { s.emitTx (line ++ [byteLF]) with
    cliDeadline := s.now.toNat + s.cliTimeout.toNat
    cliOutcome := .none
    cliState := .wait }

/-- A job begins: `cli_job <- j ; cli_result <- NONE` (43_cli_fsm.md R178, R184 to R186). -/
def State.beginJob (s : State) (j : CliJob) : State := { s with cliJob := j, cliResult := .none }

/-- A job ends with a result and the FSM leaves WAIT (43_cli_fsm.md R175, R183). -/
def State.endJob (s : State) (r : CliResult) : State := { s with cliResult := r, cliState := .idle }

/-- `config_step` (43_cli_fsm.md R183): the next line is sent, or the job ends. -/
def State.configStep (s : State) (o : CliOutcome) : State :=
  if o = .acknowledged then
    let t := { s with cfgIdx := s.cfgIdx + 1 }
    match s.cfgLines[s.cfgIdx + 1]? with
    | some l => t.sendLine l.bytes
    | none => t.endJob .success
  else (s.endJob .fail).setErr .configRejected

/-- The end of a CLOSE job: its outcome is ignored, the port is closed and `rx_buf` emptied
(43_cli_fsm.md R175, R177). -/
def State.closePort (s : State) : State :=
  { s with cliResult := .success, cliState := .closed, rxBuf := [] }

/-- `finish_wait` (43_cli_fsm.md R175). In a WAIT every job is one of the five the rule names
(10_state.md R39); with job NONE only the outcome is recorded (notes/assumptions/11.md). -/
def State.finishWait (s : State) (o : CliOutcome) : State :=
  let t := { s with cliOutcome := o }
  match s.cliJob with
  | .send => t.endJob (if o = .acknowledged then .success else .fail)
  | .start => t.endJob (if o = .acknowledged then .success else .fail)
  | .stop => t.endJob (if o = .acknowledged then .success else .fail)
  | .config => t.configStep o
  | .close => t.closePort
  | .none => t

/-- The CLI time-out check (43_cli_fsm.md R189). -/
def State.cliTimeoutCheck (s : State) : State :=
  if s.cliState = .wait ∧ s.cliDeadline < s.now.toNat then s.finishWait .timedOut else s

/-- The gate of the four sending operations: CLOSED raises PORT_CLOSED, WAIT raises CLI_BUSY, IDLE lets
the operation go on (43_cli_fsm.md R187, R188). -/
def State.whenIdle (s : State) (go : State) : State :=
  match s.cliState with
  | .closed => s.raise .portClosed
  | .wait => s.raise .cliBusy
  | .idle => go

/-- A line of one command is sent under a job and the operation responds OK (43_cli_fsm.md R178,
R184 to R186). -/
def State.startCommand (s : State) (j : CliJob) (line : List Byte) : State :=
  ((s.beginJob j).sendLine line).respond .none

end Sys2Proof.Machine
end

