-- ==== Sys2Proof/Machine/Cli.lean ====
section
/-! DEFINITION. The operations of unit U3: CLI_SEND, CLI_SEND_CONFIG, CLI_START, CLI_STOP, CLI_CLOSE and
CLI_RX_BYTE (43_cli_fsm.md R178 to R190). -/

namespace Sys2Proof.Machine

/-- CLI_SEND (43_cli_fsm.md R178). -/
def execCliSend (line : List Byte) (s : State) : Host.Outcome State Fault Refusal :=
  .next (s.whenIdle
    (if validLine s.cfg line then s.startCommand .send line else s.raise .badArgument))

/-- A CONFIG job begins with the forwardable lines of its text: the first one is sent, and a text with
none succeeds at once (43_cli_fsm.md R181). -/
def State.startConfig (s : State) (lines : List CfgLine) : State :=
  let t := { s.beginJob .config with cliOutcome := .none, cfgLines := lines, cfgIdx := 0 }
  match lines with
  | [] => { t with cliResult := .success }
  | l :: _ => t.sendLine l.bytes

/-- A forwardable line is longer than MAX_LINE (43_cli_fsm.md R181). -/
def hasLongLine (c : Config) (lines : List CfgLine) : Bool :=
  lines.any (fun l => decide (c.maxLine < l.bytes.length))

/-- CLI_SEND_CONFIG (43_cli_fsm.md R181). -/
def execCliSendConfig (text : List Byte) (s : State) : Host.Outcome State Fault Refusal :=
  .next (s.whenIdle
    (if s.cfg.maxCfgBytes < text.length then s.raise .badArgument
     else if hasLongLine s.cfg (forwardableLines text) then s.raise .badArgument
     else (s.startConfig (forwardableLines text)).respond .none))

/-- CLI_START (43_cli_fsm.md R184). -/
def execCliStart (s : State) : Host.Outcome State Fault Refusal :=
  .next (s.whenIdle (s.startCommand .start lineSensorStart))

/-- CLI_STOP (43_cli_fsm.md R185). -/
def execCliStop (s : State) : Host.Outcome State Fault Refusal :=
  .next (s.whenIdle (s.startCommand .stop lineSensorStop))

/-- CLI_CLOSE (43_cli_fsm.md R186): a job in WAIT is abandoned; on a closed port, nothing. -/
def execCliClose (s : State) : Host.Outcome State Fault Refusal :=
  if s.cliState = .closed then .next (s.respond .none)
  else .next (s.startCommand .close lineSensorStop)

/-- LF completes the line: it leaves `rx_buf`, and while a command waits it is matched
(43_cli_fsm.md R190, R191). -/
def State.completeLine (s : State) : State :=
  let t := { s with rxBuf := [] }
  if s.cliState = .wait ∧ matchLine s.rxBuf ≠ .none then t.finishWait (matchLine s.rxBuf) else t

/-- A character joins `rx_buf`, or is dropped with LINE_OVERFLOW when it is full
(43_cli_fsm.md R190, R192). -/
def State.storeChar (s : State) (b : Byte) : State :=
  if s.rxBuf.length < s.cfg.maxLine then { s with rxBuf := s.rxBuf ++ [b] }
  else s.setErr .lineOverflow

/-- CLI_RX_BYTE (43_cli_fsm.md R190): ignored on a closed port; LF ends the line; 0x80 to 0xFF are
dropped; any other byte is a character. -/
def execCliRxByte (b : Byte) (s : State) : Host.Outcome State Fault Refusal :=
  if s.cliState = .closed then .next (s.respond .none)
  else if b = byteLF then .next (s.completeLine.respond .none)
  else if 0x80 ≤ b.toNat then .next (s.respond .none)
  else .next ((s.storeChar b).respond .none)

end Sys2Proof.Machine
end

