-- ==== Sys2Proof/Machine/Decoder.lean ====
section
/-! DEFINITION. Unit U2, the RDIF decoder: its pure stages (42_rdif_decoder.md R142 to R151) and the four
operations UNSWIZZLE, RESHAPE, SIGNCONV and DECODE_FRAME. -/

namespace Sys2Proof.Machine

/-! ### Stages -/

/-- Bit n of a word, moved to bit position b of the result (42_rdif_decoder.md R142). -/
def moveBit (w : Word) (n b : Nat) : Word := ((w >>> n) &&& 1#16) <<< b

/-- Sample Si of a block, for its shift `sh[i]`: bit `sh[i] + k` of word Wj lands at bit 4k + j
(42_rdif_decoder.md R142, 30_encoding.md R91). -/
def blockSample (sh : Nat) (w0 w1 w2 w3 : Word) : Word :=
  [0, 1, 2].foldl
    (fun acc k =>
      acc ||| moveBit w0 (sh + k) (4 * k) ||| moveBit w1 (sh + k) (4 * k + 1) |||
        moveBit w2 (sh + k) (4 * k + 2) ||| moveBit w3 (sh + k) (4 * k + 3))
    0#16

/-- `unswizzle4`, with the shifts 9, 6, 3, 0 for S0 to S3 (42_rdif_decoder.md R142). -/
def unswizzle4 (w0 w1 w2 w3 : Word) : List Word :=
  [9, 6, 3, 0].map (fun sh => blockSample sh w0 w1 w2 w3)

/-- `unswizzle`: the blocks of a word array, one after the other (42_rdif_decoder.md R143). It is used
on arrays whose length is a multiple of 4 only. -/
def unswizzle : List Word → List Word
  | w0 :: w1 :: w2 :: w3 :: rest => unswizzle4 w0 w1 w2 w3 ++ unswizzle rest
  | _ => []

/-- Word Wj of `swizzle4`: bit 4k + j of Si at bit `sh[i] + k`, bits [15:12] zero
(42_rdif_decoder.md R145). -/
def blockWord (j : Nat) (s0 s1 s2 s3 : Word) : Word :=
  [0, 1, 2].foldl
    (fun acc k =>
      acc ||| moveBit s0 (4 * k + j) (9 + k) ||| moveBit s1 (4 * k + j) (6 + k) |||
        moveBit s2 (4 * k + j) (3 + k) ||| moveBit s3 (4 * k + j) k)
    0#16

/-- `swizzle4`, the inverse of `unswizzle4` on 12-bit samples. No operation of the block uses it; it
defines the round-trip property (42_rdif_decoder.md R145). -/
def swizzle4 (s0 s1 s2 s3 : Word) : List Word :=
  [0, 1, 2, 3].map (fun j => blockWord j s0 s1 s2 s3)

/-- `swizzle`, block by block (42_rdif_decoder.md R145). -/
def swizzle : List Word → List Word
  | s0 :: s1 :: s2 :: s3 :: rest => swizzle4 s0 s1 s2 s3 ++ swizzle rest
  | _ => []

/-- The index of the unswizzled word that element (l, c, a) of the reshaped frame takes:
`((l × T + t) × A + a) × R + r` with t = c / R and r = c % R (42_rdif_decoder.md R146, R151). -/
def reshapeSource (T R A l c a : Nat) : Nat := ((l * T + c / R) * A + a) * R + c % R

/-- `reshape`: the elements (l, c, a) in row-major order of shape [L, T × R, A]
(42_rdif_decoder.md R146, 30_encoding.md R92). The source index is always in range for an array of
length S = L × T × R × A. -/
def reshape (L T R A : Nat) (u : List Word) : List Word :=
  (List.range L).flatMap fun l =>
    (List.range (T * R)).flatMap fun c =>
      (List.range A).map fun a => u.getD (reshapeSource T R A l c a) 0#16

/-- `sconv`: the signed value of a 12-bit word (42_rdif_decoder.md R148). -/
def sconv (v : Word) : Int := if 2047 < v.toNat then (v.toNat : Int) - 4096 else v.toNat

/-- `sconv(v) & 0xFFFF`, the 16-bit carrier of a signed value (42_rdif_decoder.md R148, R152). -/
def signWord (v : Word) : Word := BitVec.ofInt 16 (sconv v)

/-- `decode_frame`: unswizzle, then reshape, then sign conversion (42_rdif_decoder.md R150, R151). -/
def State.decodeFrame (s : State) (w : List Word) : List Word :=
  (reshape s.numLoops.toNat s.numTx.toNat s.numRx.toNat s.numAdc.toNat (unswizzle w)).map signWord

/-! ### Operations -/

/-- UNSWIZZLE (42_rdif_decoder.md R141). -/
def execUnswizzle (w : List Word) (s : State) : Host.Outcome State Fault Refusal :=
  if s.cfg.maxFrameSamples < w.length then .next (s.raise .badArgument)
  else if w.length % 4 ≠ 0 then .next (s.raise .invalidBlockLength)
  else .next (s.respond (.words (unswizzle w)))

/-- RESHAPE (42_rdif_decoder.md R147). -/
def execReshape (u : List Word) (s : State) : Host.Outcome State Fault Refusal :=
  if s.cfg.maxFrameSamples < u.length then .next (s.raise .badArgument)
  else if s.geometryValid = false then .next (s.raise .configInvalid)
  else if u.length ≠ s.samplesPerFrame then .next (s.raise .badArgument)
  else
    .next (s.respond (.words
      (reshape s.numLoops.toNat s.numTx.toNat s.numRx.toNat s.numAdc.toNat u)))

/-- SIGNCONV (42_rdif_decoder.md R149). -/
def execSignconv (v : List Word) (s : State) : Host.Outcome State Fault Refusal :=
  if s.cfg.maxFrameSamples < v.length then .next (s.raise .badArgument)
  else if v.any (fun x => decide (0x0FFF < x.toNat)) then .next (s.raise .badArgument)
  else .next (s.respond (.words (v.map signWord)))

/-- DECODE_FRAME (42_rdif_decoder.md R153). -/
def execDecodeFrame (w : List Word) (s : State) : Host.Outcome State Fault Refusal :=
  if s.cfg.maxFrameSamples < w.length then .next (s.raise .badArgument)
  else if w.length % 4 ≠ 0 then .next (s.raise .invalidBlockLength)
  else if s.geometryValid = false then .next (s.raise .configInvalid)
  else if w.length ≠ s.samplesPerFrame then .next (s.raise .badArgument)
  else .next (s.respond (.words (s.decodeFrame w)))

end Sys2Proof.Machine
end

