-- ==== Sys2Proof/Machine/Channel.lean ====
section
/-! DEFINITION. The output channel of unit U4: decode and publish of an emitted frame, and the draining of
held frames (44_control.md R221 to R226). -/

namespace Sys2Proof.Machine

/-- `enqueue` (44_control.md R223). -/
def State.enqueue (s : State) (f : OutFrame) : State :=
  { s with outq := s.outq ++ [f], framesOutTotal := s.framesOutTotal + 1#32 }

/-- `block_on`: the frame is held and the pipeline waits for the consumer (44_control.md R224). -/
def State.blockOn (s : State) (f : OutFrame) : State :=
  { s with holdq := [f], pipeState := .publishBlocked }

/-- The head of `outq` is removed and counted, and OUTPUT_DROP is set: the first part of
`drop_oldest_then_enqueue` (44_control.md R225). -/
def State.dropHead (s : State) : State :=
  ({ s with outq := s.outq.drop 1, outDropTotal := s.outDropTotal + 1#32 }).setErr .outputDrop

/-- `publish` (44_control.md R222). -/
def State.publish (s : State) (f : OutFrame) : State :=
  if s.pipeState = .publishBlocked then { s with holdq := s.holdq ++ [f] }
  else if s.outq.length < s.cfg.outDepth then s.enqueue f
  else if s.dropOldest then s.dropHead.enqueue f
  else s.blockOn f

/-- `pipeline_out` for one emitted frame: a frame whose length is not a multiple of 4 fails to decode and
is lost, any other is decoded and published (44_control.md R221). S is the same for every frame of one
PKT_IN, so one PKT_IN sets at most one of INVALID_BLOCK_LENGTH and OUTPUT_DROP, where 60_exceptions.md R246
remarks that it can set both with PENDING_OVERFLOW (DEDUCED, notes/assumptions/21.md). -/
def State.pipelineOut (s : State) (f : Nat × List Word) : State :=
  if s.samplesPerFrame % 4 ≠ 0 then s.setErr .invalidBlockLength
  else s.publish ⟨f.1, s.decodeFrame f.2⟩

/-- The loop of `drain_hold`: held frames enter `outq` while there is room (44_control.md R226). The
first argument bounds the number of turns; one per held frame is enough. -/
def State.drainLoop : Nat → State → State
  | 0, s => s
  | n + 1, s =>
    match s.holdq with
    | [] => s
    | f :: rest =>
      if s.outq.length < s.cfg.outDepth then
        State.drainLoop n (({ s with holdq := rest }).enqueue f)
      else s

/-- The end of `drain_hold`: with nothing held any more, the pipeline stops if a stop was requested, else
it runs again and its data-read wait starts afresh (44_control.md R226, R227). -/
def State.resumeLoop (s : State) : State :=
  if s.holdq ≠ [] then s
  else if s.stopReq then
    { s with pipeState := .stopped, stopReason := .stopRequested, stopReq := false }
  else { s with pipeState := .running, lastPktTime := s.now }

/-- `drain_hold()` (44_control.md R226). -/
def State.drainHold (s : State) : State := (State.drainLoop s.holdq.length s).resumeLoop

end Sys2Proof.Machine
end

