-- ==== Sys2Proof/Machine/Control.lean ====
section
/-! DEFINITION. The operations of unit U4: NOP, REG_RD, REG_WR, TICK, PIPE_START, PIPE_STOP and FRAME_POP
(44_control.md R210 to R218). -/

namespace Sys2Proof.Machine

/-- NOP (44_control.md R210). -/
def execNop (s : State) : Host.Outcome State Fault Refusal := .next (s.respond .none)

/-- REG_RD (44_control.md R211). -/
def execRegRd (reg : BitVec 8) (s : State) : Host.Outcome State Fault Refusal :=
  match regOfIndex reg with
  | none => .next (s.raise .illegalCommand)
  | some r => .next (s.respond (.u32 (s.readReg r)))

/-- REG_WR (44_control.md R213): index, then RO, then LOCK, then the write. -/
def execRegWr (reg : BitVec 8) (v : U32) (s : State) : Host.Outcome State Fault Refusal :=
  match regOfIndex reg with
  | none => .next (s.raise .illegalCommand)
  | some r =>
    if regAccess r = .ro then .next (s.raise .regReadOnly)
    else if regAccess r = .lock ∧ s.pipeState ≠ .idle then .next (s.raise .illegalState)
    else .next ((s.writeReg r v).respond .none)

/-- TICK (44_control.md R214). -/
def execTick (s : State) : Host.Outcome State Fault Refusal := .next (s.respond (.u32 s.statusWord))

/-- The capture loop is launched (44_control.md R215). -/
def State.launch (s : State) : State :=
  { s with pipeState := .running, stopReason := .none, stopReq := false, lastPktTime := s.now }

/-- PIPE_START (44_control.md R215). -/
def execPipeStart (s : State) : Host.Outcome State Fault Refusal :=
  match s.pipeState with
  | .running => .next (s.respond .none)
  | .publishBlocked => .next (s.respond .none)
  | .stopped => .next (s.raise .illegalState)
  | .idle =>
    if s.geometryValid then .next (s.launch.respond .none) else .next (s.raise .configInvalid)

/-- The loop is asked to exit: at once when it is not in a publish, after the held frames when it is
(44_control.md R217, R227). -/
def State.requestStop (s : State) : State :=
  match s.pipeState with
  | .idle => { s with pipeState := .stopped, stopReason := .stopRequested }
  | .running => { s with pipeState := .stopped, stopReason := .stopRequested }
  | .publishBlocked => { s with stopReq := true }
  | .stopped => s

/-- PIPE_STOP (44_control.md R217). -/
def execPipeStop (s : State) : Host.Outcome State Fault Refusal := .next (s.requestStop.respond .none)

/-- The oldest frame leaves `outq`, and a blocked publish goes on (44_control.md R218). -/
def State.takeHead (s : State) (rest : List OutFrame) : State :=
  let t := { s with outq := rest }
  if s.pipeState = .publishBlocked then t.drainHold else t

/-- FRAME_POP (44_control.md R218). -/
def execFramePop (s : State) : Host.Outcome State Fault Refusal :=
  match s.outq with
  | [] => .next s.hold
  | f :: rest => .next ((s.takeHead rest).respond (.frame f.fid f.frame))

end Sys2Proof.Machine
end

