-- ==== Sys2Proof/Machine/Store.lean ====
section
/-! DEFINITION. The pending store and the reassembly walk of unit U1 (10_state.md R36, 41_reassembly.md
R114 to R119). -/

namespace Sys2Proof.Machine

/-! ### The store as a map in canonical form -/

/-- The frame ids rise strictly: the one canonical form of a pending store, the model's own
(DEDUCED, notes/assumptions/8.md). -/
def storeWf : Store → Bool
  | [] => true
  | (k, _) :: rest => rest.all (fun p => decide (k < p.1)) && storeWf rest

/-- The entry of a frame id. -/
def storeFind (p : Store) (fid : Nat) : Option Entry :=
  match p with
  | [] => none
  | (k, e) :: rest => if k = fid then some e else storeFind rest fid

/-- The store with the entry of a frame id created or replaced, in order. -/
def storeSet (p : Store) (fid : Nat) (e : Entry) : Store :=
  match p with
  | [] => [(fid, e)]
  | (k, f) :: rest =>
    if fid < k then (fid, e) :: (k, f) :: rest
    else if fid = k then (fid, e) :: rest
    else (k, f) :: storeSet rest fid e

/-- The store without the entry of a frame id. -/
def storeErase (p : Store) (fid : Nat) : Store := p.filter (fun q => decide (q.1 ≠ fid))

/-! ### Entries -/

/-- A fresh entry of S positions, its mask all 0 (41_reassembly.md R114). -/
def freshEntry (S : Nat) (now : Time) : Entry := ⟨List.replicate S none, now⟩

/-- `write_chunk`: the words from position `pos` on are written and their mask bits set, whatever was
there; `first_seen` is not changed (41_reassembly.md R115). -/
def Entry.writeChunk (e : Entry) (pos : Nat) (ws : List Word) : Entry :=
  { e with slots := e.slots.take pos ++ ws.map some ++ e.slots.drop (pos + ws.length) }

/-- Every mask bit is 1 (41_reassembly.md R116). -/
def Entry.complete (e : Entry) : Bool := e.slots.all Option.isSome

/-- `mask`, one bit per position (10_state.md R36). -/
def Entry.mask (e : Entry) : List Bool := e.slots.map Option.isSome

/-- The words of an entry in position order; for a complete entry, `buf` (10_state.md R36). -/
def Entry.buf (e : Entry) : List Word := e.slots.filterMap id

/-! ### The walk -/

/-- A chunk: "a run of consecutive payload words that lands in one frame" (41_reassembly.md R110). -/
structure Chunk where
  fid : Nat
  pos : Nat
  words : List Word
deriving DecidableEq, Repr

/-- The chunks of a payload that starts at sample offset `o`, in the order of the walk: `fid = o / S`,
`pos = o % S`, `chunk = min(rem, S - pos)` (41_reassembly.md R114). The first argument bounds the number
of chunks; one per word is enough, since a chunk has at least one word. With S = 0, which a running
pipeline never has (44_control.md R216), there is no chunk (notes/assumptions/13.md). -/
def splitChunks (fuel S o : Nat) (ws : List Word) : List Chunk :=
  match fuel with
  | 0 => []
  | fuel + 1 =>
    if S = 0 ∨ ws = [] then []
    else
      let n := min ws.length (S - o % S)
      ⟨o / S, o % S, ws.take n⟩ :: splitChunks fuel S (o + n) (ws.drop n)

/-- Where a walk stands: the store, the frames completed so far in order, and whether a chunk was
dropped because the store was full. -/
structure Walk where
  pending : Store
  completed : List (Nat × List Word)
  overflow : Bool
deriving DecidableEq, Repr

/-- The entry a chunk goes to: the frame's own, or a fresh one if the store has room; none when the
chunk must be dropped (41_reassembly.md R114, R123). -/
def chunkEntry (cap : Option Nat) (S : Nat) (now : Time) (p : Store) (fid : Nat) : Option Entry :=
  match storeFind p fid with
  | some e => some e
  | none => if cap = some p.length then none else some (freshEntry S now)

/-- One step of the walk: write the chunk, and remove and record the frame if it is now complete
(41_reassembly.md R114 to R116, R123). -/
def placeChunk (cap : Option Nat) (S : Nat) (now : Time) (w : Walk) (c : Chunk) : Walk :=
  match chunkEntry cap S now w.pending c.fid with
  | none => { w with overflow := true }
  | some e =>
    let e' := e.writeChunk c.pos c.words
    if e'.complete then
      { w with pending := storeErase w.pending c.fid, completed := w.completed ++ [(c.fid, e'.buf)] }
    else { w with pending := storeSet w.pending c.fid e' }

/-- The whole walk of a payload (41_reassembly.md R114). -/
def walkPayload (cap : Option Nat) (S : Nat) (now : Time) (p : Store) (soff : Nat)
    (payload : List Word) : Walk :=
  (splitChunks payload.length S soff payload).foldl (placeChunk cap S now) ⟨p, [], false⟩

/-- The state after `reassemble(soff, payload, now)`: the store walked, and PENDING_OVERFLOW set if a
chunk was dropped (41_reassembly.md R114, R123). -/
def State.afterWalk (s : State) (w : Walk) : State :=
  let t := { s with pending := w.pending }
  if w.overflow then t.setErr .pendingOverflow else t

/-! ### Eviction -/

/-- An entry is stale when `first_seen + timeout < now`, on unbounded integers and strictly
(41_reassembly.md R119). -/
def isStale (now : Time) (timeout : Nat) (e : Entry) : Bool :=
  decide (e.firstSeen.toNat + timeout < now.toNat)

/-- The frame ids `evict_stale` removes, in the store's (ascending) order (41_reassembly.md R119). -/
def staleIds (now : Time) (timeout : Nat) (p : Store) : List Nat :=
  (p.filter (fun q => isStale now timeout q.2)).map Prod.fst

/-- `evict_stale(now, timeout)`: the stale entries are removed and counted (41_reassembly.md R119). -/
def State.evictStale (s : State) (timeout : Nat) : State :=
  { s with
    pending := s.pending.filter (fun q => !isStale s.now timeout q.2)
    evictTotal := s.evictTotal + BitVec.ofNat 32 (staleIds s.now timeout s.pending).length }

end Sys2Proof.Machine
end

