-- ==== Sys2Proof/Machine/Reassembly.lean ====
section
/-! DEFINITION. The operations of unit U1: PKT_IN and EVICT (41_reassembly.md R111, R120). -/

namespace Sys2Proof.Machine

/-- The completion policy: all completed frames are emitted, or under COMPL_ALL = 0 the first only
(41_reassembly.md R117). -/
def State.emittedOf (s : State) (completed : List (Nat × List Word)) : List (Nat × List Word) :=
  if s.complAll then completed else completed.take 1

/-- The frames the policy discards are counted, modulo 2^32 (41_reassembly.md R117). -/
def State.countDiscards (s : State) (completed : List (Nat × List Word)) : State :=
  if s.complAll then s
  else { s with discardTotal := s.discardTotal + BitVec.ofNat 32 (completed.length - 1) }

/-- A well-formed datagram is recorded: its sequence number and its time (41_reassembly.md R111). -/
def State.noteDatagram (s : State) (d : List Byte) : State :=
  { s with lastSeq := BitVec.ofInt 32 (packetSeq d), lastPktTime := s.now }

/-- The walk of a datagram over the pending store (41_reassembly.md R111, R114). -/
def State.datagramWalk (s : State) (d : List Byte) : Walk :=
  walkPayload s.cfg.maxPending s.samplesPerFrame s.now s.pending (sampleOffset d) (packetPayload d)

/-- PKT_IN of a well-formed datagram by a running pipeline: walk, policy, one eviction pass if a frame
completed, then decode and publish of each emitted frame (41_reassembly.md R111, R117, R118). -/
def State.takeDatagram (s : State) (d : List Byte) : State :=
  let s1 := s.noteDatagram d
  let w := s1.datagramWalk d
  let s2 := s1.afterWalk w
  if w.completed = [] then s2.respond (.packet [] [])
  else
    let emitted := s2.emittedOf w.completed
    let timeout := 2 * s2.framePeriod.toNat
    let evicted := staleIds s2.now timeout s2.pending
    let s3 := (s2.countDiscards w.completed).evictStale timeout
    (emitted.foldl State.pipelineOut s3).respond (.packet (emitted.map Prod.fst) evicted)

/-- A malformed datagram stops the pipeline (41_reassembly.md R111, 90_conflicts.md C1). -/
def State.stopMalformed (s : State) : State :=
  { s with pipeState := .stopped, stopReason := .malformedPacket, stopReq := false }

/-- PKT_IN (41_reassembly.md R111, 44_control.md R220). -/
def execPktIn (d : List Byte) (s : State) : Host.Outcome State Fault Refusal :=
  match s.pipeState with
  | .idle => .next (s.raise .illegalState)
  | .stopped => .next (s.raise .illegalState)
  | .publishBlocked => .next s.hold
  | .running =>
    if malformed d then .next (s.stopMalformed.raise .malformedPacket)
    else .next (s.takeDatagram d)

/-- EVICT (41_reassembly.md R120). -/
def execEvict (timeout : U32) (s : State) : Host.Outcome State Fault Refusal :=
  .next ((s.evictStale timeout.toNat).respond (.fids (staleIds s.now timeout.toNat s.pending)))

end Sys2Proof.Machine
end

