-- ==== Sys2Proof/Machine/Dispatch.lean ====
section
/-! DEFINITION. One arm per operation of the opcode map (30_encoding.md R85). -/

namespace Sys2Proof.Machine

def exec (i : Instr) (s : State) : Host.Outcome State Fault Refusal :=
  match i with
  | .nop => Sys2Proof.Machine.execNop s
  | .regRd reg => Sys2Proof.Machine.execRegRd reg s
  | .regWr reg v => Sys2Proof.Machine.execRegWr reg v s
  | .tick => Sys2Proof.Machine.execTick s
  | .pipeStart => Sys2Proof.Machine.execPipeStart s
  | .pipeStop => Sys2Proof.Machine.execPipeStop s
  | .pktIn d => Sys2Proof.Machine.execPktIn d s
  | .evict timeout => Sys2Proof.Machine.execEvict timeout s
  | .framePop => Sys2Proof.Machine.execFramePop s
  | .unswizzle w => Sys2Proof.Machine.execUnswizzle w s
  | .reshape w => Sys2Proof.Machine.execReshape w s
  | .signconv w => Sys2Proof.Machine.execSignconv w s
  | .decodeFrame w => Sys2Proof.Machine.execDecodeFrame w s
  | .cliSend line => Sys2Proof.Machine.execCliSend line s
  | .cliSendConfig text => Sys2Proof.Machine.execCliSendConfig text s
  | .cliStart => Sys2Proof.Machine.execCliStart s
  | .cliStop => Sys2Proof.Machine.execCliStop s
  | .cliClose => Sys2Proof.Machine.execCliClose s
  | .cliRxByte b => Sys2Proof.Machine.execCliRxByte b s

end Sys2Proof.Machine
end

