-- ==== Sys2Proof/Machine/TimeCheck.lean ====
section
/-! DEFINITION. What every operation begins with: sampling `now`, the time check (44_control.md R212), and
the order time check, decode, own rule (00_scope.md R11, 60_exceptions.md R245). -/

namespace Sys2Proof.Machine

/-- The data-read time-out of the running pipeline (44_control.md R212). -/
def State.readTimeoutCheck (s : State) : State :=
  if s.pipeState = .running ∧ s.lastPktTime.toNat + s.readTimeout.toNat < s.now.toNat then
    ({ s with pipeState := .stopped, stopReason := .protocolTimeout }).setErr .protocolTimeout
  else s

/-- The time check, step (1) of every operation (44_control.md R212). -/
def State.timeCheck (s : State) : State := s.cliTimeoutCheck.readTimeoutCheck

/-- An operation is taken from the port: it is no longer to come, `now` is sampled, and the time check
runs (00_scope.md R11, 10_state.md R22). -/
def State.accept (s : State) (rest : List Event) (now : Time) : State :=
  ({ s with input := rest, now := now }).timeCheck

end Sys2Proof.Machine
end

