-- ==== Sys2Proof/Machine/Run.lean ====
section
/-! DEFINITION. One presented operation from end to end: the order time check, decode, own rule
(00_scope.md R11, 60_exceptions.md R245); and the reset event (70_reset_and_hazards.md R270). -/

namespace Sys2Proof.Machine

/-- An operation whose command word is rejected: it raises after the time check
(30_encoding.md R82, 60_exceptions.md R242). -/
def State.rejectCommand (s : State) (e : DecodeError) : State := s.raise (decodeErrorCode e)

/-- One operation: the time check with the sampled `now`, the decode of the command word, then the
operation's own rule (00_scope.md R11). A `now` that goes back is refused
(70_reset_and_hazards.md R285, notes/assumptions/5.md). -/
def runOperation (o : Operation) (rest : List Event) (s : State) :
    Host.Outcome State Fault Refusal :=
  if o.now.toNat < s.now.toNat then .refused .timeReversed
  else
    match decode o.cmd o.arg with
    | .error e => .next ((s.accept rest o.now).rejectCommand e)
    | .ok i => exec i (s.accept rest o.now)

/-- The reset event is taken from what is still to come (70_reset_and_hazards.md R270). -/
def State.takeReset (s : State) (rest : List Event) : State :=
  { s.applyReset with input := rest }

end Sys2Proof.Machine
end

