-- ==== Sys2Proof/Machine/Step.lean ====
section
/-! DEFINITION. One step of the block: the next presented operation or reset event, atomically
(00_scope.md R5, R11). -/

namespace Sys2Proof.Machine

/-- The next thing presented to the block. With nothing presented the block does nothing
(60_exceptions.md R255, 70_reset_and_hazards.md R271). -/
def step (s : State) : Host.Outcome State Fault Refusal :=
  match s.input with
  | [] => .next s
  | .reset :: rest => .next (s.takeReset rest)
  | .op o :: rest => runOperation o rest s

/-- The state with one operation presented next: the command word in the low `nbits` bits of `w`, with
an argument of zeros of its kind, at the time of the last operation (notes/assumptions/2.md). -/
def State.withFetchWord (s : State) (nbits w : Nat) : State :=
  let cmd := wordOfTable nbits w
  { s with input := .op ⟨cmd, zeroArg (cmd.extractLsb' 0 5).toNat, s.now⟩ :: s.input }

end Sys2Proof.Machine
end

