-- ==== Sys2Proof/Safety.lean ====
section
/-! DEFINITION. What holds of every state a run reaches, in the terms the statements use, and the quiescent
states of 44_control.md R228. -/

namespace Sys2Proof.Machine

/-- The reserved fields of the registers hold 0: ERR [31:14], CTRL [31:2] and NUM_* [31:16]
(10_state.md R23, R26, R27, R33). -/
structure ReservedZero (s : State) : Prop where
  err : s.err.toNat < 2 ^ 14
  ctrl : s.ctrl.toNat < 2 ^ 2
  numTx : s.numTx.toNat < 2 ^ 16
  numRx : s.numRx.toNat < 2 ^ 16
  numAdc : s.numAdc.toNat < 2 ^ 16
  numLoops : s.numLoops.toNat < 2 ^ 16

/-- The pipeline state agrees with what goes with it: a stop reason only when STOPPED, a pending stop
request only when PUBLISH_BLOCKED, held frames exactly when PUBLISH_BLOCKED (10_state.md R37, R38), and a
valid geometry while the loop runs (41_reassembly.md R110). -/
structure PipelineConsistent (s : State) : Prop where
  reason : s.stopReason ≠ .none ↔ s.pipeState = .stopped
  stopRequest : s.stopReq = true → s.pipeState = .publishBlocked
  held : s.holdq ≠ [] ↔ s.pipeState = .publishBlocked
  geometry : s.pipeState = .running ∨ s.pipeState = .publishBlocked → s.geometryValid = true

/-- The output channel keeps its capacity, and the pipeline is blocked only on a full channel under the
blocking policy (10_state.md R38, 44_control.md R222 to R226). -/
structure ChannelBounded (s : State) : Prop where
  params : s.cfg.wf = true
  depth : s.outq.length ≤ s.cfg.outDepth
  full : s.pipeState = .publishBlocked → s.outq.length = s.cfg.outDepth
  policy : s.pipeState = .publishBlocked → s.dropOldest = false

/-- Every frame in the channel, or held for it, is a DecodedFrame: S values in [-2048, 2047]
(10_state.md R38, 42_rdif_decoder.md R152); before the first start there is none. -/
structure FramesDecoded (s : State) : Prop where
  shape : ∀ f ∈ s.outq ++ s.holdq, f.frame.length = s.samplesPerFrame
  range : ∀ f ∈ s.outq ++ s.holdq, ∀ v ∈ f.frame, -2048 ≤ v.toInt ∧ v.toInt ≤ 2047
  idle : s.pipeState = .idle → s.outq = [] ∧ s.holdq = []

/-- The pending store is within MAX_PENDING, and every entry has S positions of which at least one is not
filled (10_state.md R36); before the first start it is empty. That its list is canonical is the model's
own (notes/assumptions/8.md). -/
structure StoreSound (s : State) : Prop where
  canonical : storeWf s.pending = true
  capacity : ∀ n ∈ s.cfg.maxPending, s.pending.length ≤ n
  shape : ∀ p ∈ s.pending, p.2.slots.length = s.samplesPerFrame
  incomplete : ∀ p ∈ s.pending, p.2.complete = false
  idle : s.pipeState = .idle → s.pending = []

/-- The CLI FSM agrees with its job: a waiting command has a job and no result (10_state.md R39), the
configuration cursor points at a line while CLI_CFG_LINE reads it (R35), the receive buffer is bounded
and holds characters only (30_encoding.md R93), and a closed port is the end of a CLOSE job
(43_cli_fsm.md R177). -/
structure CliConsistent (s : State) : Prop where
  waiting : s.cliState = .wait → s.cliJob ≠ .none ∧ s.cliResult = .none
  cursor : s.cliJob = .config ∧ (s.cliState = .wait ∨ s.cliResult = .fail) →
    s.cfgIdx < s.cfgLines.length
  buffer : s.rxBuf.length ≤ s.cfg.maxLine
  characters : ∀ b ∈ s.rxBuf, b.toNat < 0x80 ∧ b ≠ byteLF
  closed : s.cliState = .closed → s.cliJob = .close ∧ s.cliResult = .success ∧ s.rxBuf = []

/-- The stored time stamps are not ahead of the time of the last operation, the CLI deadline by no more
than a CLI time-out (70_reset_and_hazards.md R285). -/
structure TimesPast (s : State) : Prop where
  lastPacket : s.lastPktTime.toNat ≤ s.now.toNat
  firstSeen : ∀ p ∈ s.pending, p.2.firstSeen.toNat ≤ s.now.toNat
  deadline : s.cliDeadline < s.now.toNat + 2 ^ 32

/-- A state no time-out can change (44_control.md R228). -/
def State.quiescent (s : State) : Bool :=
  (decide (s.pipeState = .idle) || decide (s.pipeState = .stopped)) &&
    decide (s.cliState ≠ .wait) && s.holdq.isEmpty

end Sys2Proof.Machine
end

