-- ==== Sys2Proof/Certificates/Slice0/Obligations.lean ====
section
/-! DEFINITION. Statements about the model for the provers, from the numbered rules of spec/. -/

open Sys2Proof Sys2Proof.Machine

/-! ### Encoding -/

/-- 30_encoding.md R81, R85: decoding the command word and argument of an operation gives it back, for
every operation with every operand. -/
def Obligations.DecodeInvertsEncode : Prop :=
  ∀ i : Instr, decode (encode i).1 (encode i).2 = .ok i

/-- 30_encoding.md R81, R85: every operation has exactly one command word and argument kind: what decodes
to it is its encoding. -/
def Obligations.DecodeOnlyOfEncoded : Prop :=
  ∀ (cmd : U32) (arg : Arg) (i : Instr), decode cmd arg = .ok i → encode i = (cmd, arg)

/-- 30_encoding.md R82: the first failing check decides, in the order reserved bits, OP range, REG field,
argument kind, with the code it raises; an operation that passes all four decodes. -/
def Obligations.DecodeFollowsCheckOrder : Prop :=
  ∀ o : Operation,
    (o.reservedClear = false → decode o.cmd o.arg = .error .reservedBits) ∧
    (o.reservedClear = true → o.opAssigned = false → decode o.cmd o.arg = .error .reservedOp) ∧
    (o.reservedClear = true → o.opAssigned = true → o.regAllowed = false →
      decode o.cmd o.arg = .error .strayReg) ∧
    (o.reservedClear = true → o.opAssigned = true → o.regAllowed = true → o.argMatches = false →
      decode o.cmd o.arg = .error .wrongArgument) ∧
    (o.wellFormed = true → ∃ i, decode o.cmd o.arg = .ok i) ∧
    decodeErrorCode .reservedBits = .illegalCommand ∧
    decodeErrorCode .reservedOp = .illegalCommand ∧
    decodeErrorCode .strayReg = .illegalCommand ∧
    decodeErrorCode .wrongArgument = .badArgument

/-- 30_encoding.md R81, R85, R97: words written out from the format, one or more of every unit, and
rejected ones. -/
def Obligations.WrittenWordsDecode : Prop :=
  decode 0b00000000000000000000010000000010#32 (.u32 1#32) = .ok (.regWr 0x04#8 1#32) ∧
  decode 0b00000000000000000000101100000001#32 .none = .ok (.regRd 0x0B#8) ∧
  decode 0b00000000000000000000000000000110#32 (.bytes [0x01#8]) = .ok (.pktIn [0x01#8]) ∧
  decode 0b00000000000000000000000000001100#32 (.words [0x0FFF#16]) = .ok (.decodeFrame [0x0FFF#16]) ∧
  decode 0b00000000000000000000000000010010#32 (.u8 0x0A#8) = .ok (.cliRxByte 0x0A#8) ∧
  decode 0b00000000000000000000000000010011#32 .none = .error .reservedOp ∧
  decode 0b00000000000000010000000000000000#32 .none = .error .reservedBits ∧
  decode 0b00000000000000000000000100000011#32 .none = .error .strayReg

/-! ### Steps -/

/-- 00_scope.md R11, 10_state.md R22: a presented operation whose command word decodes is taken from the
port, `now` is sampled, the time check runs (`TimeCheckFiresDueTimeouts` says what it does), and then the
operation's own rule. -/
def Obligations.StepRunsDecodedOperation : Prop :=
  ∀ (s : State) (o : Operation) (rest : List Event) (i : Instr),
    s.input = .op o :: rest → s.now.toNat ≤ o.now.toNat → decode o.cmd o.arg = .ok i →
      step s = exec i (State.timeCheck { s with input := rest, now := o.now })

/-- 30_encoding.md R82, 60_exceptions.md R242: an operation whose command word is rejected raises the
error after the time check, and does nothing else. -/
def Obligations.RejectedCommandRaises : Prop :=
  ∀ (s : State) (o : Operation) (rest : List Event) (e : DecodeError),
    s.input = .op o :: rest → s.now.toNat ≤ o.now.toNat → decode o.cmd o.arg = .error e →
      ∃ u, u = State.timeCheck { s with input := rest, now := o.now } ∧
        step s = .next { u with
          err := u.err ||| 1#32 <<< (errorCode (decodeErrorCode e) - 1)
          responses := u.responses ++
            [⟨.err, BitVec.ofNat 8 (errorCode (decodeErrorCode e)), .none⟩] }

/-- 70_reset_and_hazards.md R285, 93_implementation_defined.md U2 (the refusal is the model's choice,
notes/assumptions/5.md): a step is refused exactly when the presented time goes back, and never faults;
with nothing presented it changes nothing (60_exceptions.md R255). -/
def Obligations.StepRefusesOnlyReversedTime : Prop :=
  ∀ s : State,
    (∀ r, step s = .refused r ↔
      r = .timeReversed ∧ ∃ o rest, s.input = .op o :: rest ∧ o.now.toNat < s.now.toNat) ∧
    (∀ f, step s ≠ .fault f) ∧
    (s.input = [] → step s = .next s)

/-- 30_encoding.md R80, R84: every operation completes with exactly one response of the format R84; it
consumes no other operation, changes neither the time nor the parameters, and takes nothing back from
the transmit port. -/
def Obligations.EveryOperationRespondsOnce : Prop :=
  ∀ (i : Instr) (s : State), ∃ t r,
    exec i s = .next t ∧ t.responses = s.responses ++ [r] ∧
    (r.kind = .ok → r.code = 0#8) ∧
    (r.kind = .hold → r.code = 0#8 ∧ r.data = .none) ∧
    (r.kind = .err → r.data = .none ∧ ∃ e, r.code = BitVec.ofNat 8 (errorCode e)) ∧
    t.input = s.input ∧ t.now = s.now ∧ t.cfg = s.cfg ∧ ∃ b, t.tx = s.tx ++ b

/-- 44_control.md R212, 43_cli_fsm.md R189: what the time check does to the pipeline and to the CLI, when
each time-out is due and when it is not, and what it leaves alone. The time-out of a single command or of
a CLOSE job sets no error bit (R176, R177); that of a CONFIG job sets CONFIG_REJECTED (R183). -/
def Obligations.TimeCheckFiresDueTimeouts : Prop :=
  ∀ s t : State, t = s.timeCheck →
    (s.pipeState = .running ∧ s.lastPktTime.toNat + s.readTimeout.toNat < s.now.toNat →
      t.pipeState = .stopped ∧ t.stopReason = .protocolTimeout ∧ t.err.getLsbD 5 = true) ∧
    (¬(s.pipeState = .running ∧ s.lastPktTime.toNat + s.readTimeout.toNat < s.now.toNat) →
      t.pipeState = s.pipeState ∧ t.stopReason = s.stopReason ∧
        t.err.getLsbD 5 = s.err.getLsbD 5) ∧
    (s.cliState = .wait ∧ s.cliDeadline < s.now.toNat →
      (s.cliJob = .send ∨ s.cliJob = .start ∨ s.cliJob = .stop →
        t.cliState = .idle ∧ t.cliResult = .fail ∧ t.rxBuf = s.rxBuf ∧
          t.err.getLsbD 9 = s.err.getLsbD 9) ∧
      (s.cliJob = .config →
        t.cliState = .idle ∧ t.cliResult = .fail ∧ t.err.getLsbD 9 = true ∧ t.rxBuf = s.rxBuf) ∧
      (s.cliJob = .close →
        t.cliState = .closed ∧ t.cliResult = .success ∧ t.rxBuf = [] ∧
          t.err.getLsbD 9 = s.err.getLsbD 9) ∧
      t.cliOutcome = .timedOut) ∧
    (¬(s.cliState = .wait ∧ s.cliDeadline < s.now.toNat) →
      t.cliState = s.cliState ∧ t.cliResult = s.cliResult ∧ t.cliOutcome = s.cliOutcome ∧
        t.rxBuf = s.rxBuf ∧ t.err.getLsbD 9 = s.err.getLsbD 9) ∧
    (∀ b, b ≠ 5 → b ≠ 9 → t.err.getLsbD b = s.err.getLsbD b) ∧
    t = { s with
      pipeState := t.pipeState, stopReason := t.stopReason, err := t.err, cliState := t.cliState
      cliResult := t.cliResult, cliOutcome := t.cliOutcome, rxBuf := t.rxBuf }

/-- 70_reset_and_hazards.md R270, 10_state.md R42: the reset event, at any point of a run, gives every
state element its reset value, responds nothing and emits nothing. What it leaves of the ports is the
model's choice (notes/assumptions/14.md). -/
def Obligations.ResetEventRestoresState : Prop :=
  ∀ (s : State) (rest : List Event), s.input = .reset :: rest →
    step s = .next
      { cfg := s.cfg, input := rest, now := s.now, responses := s.responses, tx := s.tx
        err := 0#32, ctrl := 1#32, numTx := 0#32, numRx := 0#32, numAdc := 0#32, numLoops := 0#32
        framePeriod := 0#32
        cliTimeout := BitVec.ofNat 32 (min (2 * s.cfg.ticksPerSecond) 0xFFFFFFFF)
        readTimeout := BitVec.ofNat 32 (min s.cfg.ticksPerSecond 0xFFFFFFFF)
        lastSeq := 0#32, evictTotal := 0#32, outDropTotal := 0#32, discardTotal := 0#32
        framesOutTotal := 0#32, pipeState := .idle, stopReason := .none, stopReq := false
        lastPktTime := 0#64, outq := [], holdq := [], pending := [], cliState := .idle
        cliJob := .none, cliOutcome := .none, cliResult := .none, cliDeadline := 0, rxBuf := []
        cfgLines := [], cfgIdx := 0 }

/-- 70_reset_and_hazards.md R272: what REG_RD of every register responds after reset, for every choice of
the parameters. -/
def Obligations.ResetRegistersRead : Prop :=
  ∀ (c : Config) (i : BitVec 8), i.toNat ≤ 0x13 →
    exec (.regRd i) (State.resetWith c) = .next ((State.resetWith c).respond (.u32 (
      if i = 0x00#8 then 0x52444946#32
      else if i = 0x03#8 then 0x00000001#32
      else if i = 0x09#8 then BitVec.ofNat 32 (min (2 * c.ticksPerSecond) 0xFFFFFFFF)
      else if i = 0x0A#8 then BitVec.ofNat 32 (min c.ticksPerSecond 0xFFFFFFFF)
      else 0#32)))

/-- 60_exceptions.md R240, R243: the number of each of the 14 errors, from 1 to 14 without a repeat;
`set_err` sets bit `code - 1` of ERR and no other, and changes nothing else; `raise` sets the same bit and
responds the code. -/
def Obligations.ErrorsSetTheirBit : Prop :=
  (errorCode .illegalCommand = 1 ∧ errorCode .illegalState = 2 ∧ errorCode .badArgument = 3 ∧
    errorCode .configInvalid = 4 ∧ errorCode .malformedPacket = 5 ∧ errorCode .protocolTimeout = 6 ∧
    errorCode .invalidBlockLength = 7 ∧ errorCode .pendingOverflow = 8 ∧ errorCode .outputDrop = 9 ∧
    errorCode .configRejected = 10 ∧ errorCode .cliBusy = 11 ∧ errorCode .portClosed = 12 ∧
    errorCode .lineOverflow = 13 ∧ errorCode .regReadOnly = 14) ∧
  (∀ e : ErrorCode, 1 ≤ errorCode e ∧ errorCode e ≤ 14) ∧
  (∀ e f : ErrorCode, errorCode e = errorCode f → e = f) ∧
  ∀ (s : State) (e : ErrorCode),
    (∀ b, (s.setErr e).err.getLsbD b = (s.err.getLsbD b || decide (b = errorCode e - 1))) ∧
    s.setErr e = { s with err := (s.setErr e).err } ∧
    s.raise e = { s.setErr e with
      responses := s.responses ++ [⟨.err, BitVec.ofNat 8 (errorCode e), .none⟩] }

/-! ### Control and registers -/

/-- 44_control.md R210, R214, 30_encoding.md R84: NOP and TICK respond OK, TICK with STATUS, and change
nothing; `respond` and `hold` only add a response. -/
def Obligations.NopAndTickRespond : Prop :=
  ∀ s : State,
    exec .nop s = .next (s.respond .none) ∧
    exec .tick s = .next (s.respond (.u32 s.statusWord)) ∧
    (∀ d, s.respond d = { s with responses := s.responses ++ [⟨.ok, 0#8, d⟩] }) ∧
    s.hold = { s with responses := s.responses ++ [⟨.hold, 0#8, .none⟩] }

/-- 44_control.md R211, 10_state.md R24: what REG_RD responds for each of the 20 indices; it writes
nothing. -/
def Obligations.RegisterReadMap : Prop :=
  ∀ s : State,
    exec (.regRd 0x00#8) s = .next (s.respond (.u32 0x52444946#32)) ∧
    exec (.regRd 0x01#8) s = .next (s.respond (.u32 s.statusWord)) ∧
    exec (.regRd 0x02#8) s = .next (s.respond (.u32 s.err)) ∧
    exec (.regRd 0x03#8) s = .next (s.respond (.u32 s.ctrl)) ∧
    exec (.regRd 0x04#8) s = .next (s.respond (.u32 s.numTx)) ∧
    exec (.regRd 0x05#8) s = .next (s.respond (.u32 s.numRx)) ∧
    exec (.regRd 0x06#8) s = .next (s.respond (.u32 s.numAdc)) ∧
    exec (.regRd 0x07#8) s = .next (s.respond (.u32 s.numLoops)) ∧
    exec (.regRd 0x08#8) s = .next (s.respond (.u32 s.framePeriod)) ∧
    exec (.regRd 0x09#8) s = .next (s.respond (.u32 s.cliTimeout)) ∧
    exec (.regRd 0x0A#8) s = .next (s.respond (.u32 s.readTimeout)) ∧
    exec (.regRd 0x0B#8) s = .next (s.respond (.u32 (BitVec.ofNat 32 (min
      (s.numLoops.toNat * s.numTx.toNat * s.numRx.toNat * s.numAdc.toNat) 0xFFFFFFFF)))) ∧
    exec (.regRd 0x0C#8) s =
      .next (s.respond (.u32 (BitVec.ofNat 32 (min s.pending.length 0xFFFFFFFF)))) ∧
    (s.outq.length < 2 ^ 32 →
      exec (.regRd 0x0D#8) s = .next (s.respond (.u32 (BitVec.ofNat 32 s.outq.length)))) ∧
    exec (.regRd 0x0E#8) s = .next (s.respond (.u32 s.lastSeq)) ∧
    exec (.regRd 0x0F#8) s = .next (s.respond (.u32 s.evictTotal)) ∧
    exec (.regRd 0x10#8) s = .next (s.respond (.u32 s.outDropTotal)) ∧
    exec (.regRd 0x11#8) s = .next (s.respond (.u32 s.discardTotal)) ∧
    exec (.regRd 0x12#8) s = .next (s.respond (.u32 s.framesOutTotal)) ∧
    (∀ l, s.cliJob = .config → s.cliState = .wait ∨ s.cliResult = .fail →
      s.cfgLines[s.cfgIdx]? = some l → exec (.regRd 0x13#8) s = .next (s.respond (.u32 l.number))) ∧
    (¬(s.cliJob = .config ∧ (s.cliState = .wait ∨ s.cliResult = .fail)) →
      exec (.regRd 0x13#8) s = .next (s.respond (.u32 0#32)))

/-- 10_state.md R32: every field of STATUS, with its encoding. -/
def Obligations.StatusFieldLayout : Prop :=
  ∀ s : State,
    s.statusWord.extractLsb' 0 2 = (match s.pipeState with
      | .idle => 0#2 | .running => 1#2 | .publishBlocked => 2#2 | .stopped => 3#2) ∧
    s.statusWord.extractLsb' 2 2 = (match s.stopReason with
      | .none => 0#2 | .stopRequested => 1#2 | .protocolTimeout => 2#2 | .malformedPacket => 3#2) ∧
    s.statusWord.getLsbD 4 = s.stopReq ∧
    s.statusWord.extractLsb' 5 2 = (match s.cliState with
      | .idle => 0#2 | .wait => 1#2 | .closed => 2#2) ∧
    s.statusWord.extractLsb' 7 3 = (match s.cliJob with
      | .none => 0#3 | .send => 1#3 | .config => 2#3 | .start => 3#3 | .stop => 4#3 | .close => 5#3) ∧
    s.statusWord.extractLsb' 10 2 = (match s.cliOutcome with
      | .none => 0#2 | .acknowledged => 1#2 | .timedOut => 2#2 | .rejected => 3#2) ∧
    s.statusWord.extractLsb' 12 2 = (match s.cliResult with
      | .none => 0#2 | .success => 1#2 | .fail => 2#2) ∧
    s.statusWord.extractLsb' 14 2 = 0#2 ∧
    (s.statusWord.extractLsb' 16 16).toNat = min s.outq.length 0xFFFF

/-- 44_control.md R213: what REG_WR stores in each writable register; nothing else changes, and the
operation responds OK. The lock registers are written while the pipeline is IDLE. -/
def Obligations.RegisterWriteEffects : Prop :=
  ∀ (s : State) (v : U32),
    exec (.regWr 0x02#8 v) s =
      .next (State.respond { s with err := s.err &&& ~~~(v &&& 0x00003FFF#32) } .none) ∧
    exec (.regWr 0x09#8 v) s = .next (State.respond { s with cliTimeout := v } .none) ∧
    (s.pipeState = .idle →
      exec (.regWr 0x03#8 v) s = .next (State.respond { s with ctrl := v &&& 0x00000003#32 } .none) ∧
      exec (.regWr 0x04#8 v) s = .next (State.respond { s with numTx := v &&& 0x0000FFFF#32 } .none) ∧
      exec (.regWr 0x05#8 v) s = .next (State.respond { s with numRx := v &&& 0x0000FFFF#32 } .none) ∧
      exec (.regWr 0x06#8 v) s = .next (State.respond { s with numAdc := v &&& 0x0000FFFF#32 } .none) ∧
      exec (.regWr 0x07#8 v) s =
        .next (State.respond { s with numLoops := v &&& 0x0000FFFF#32 } .none) ∧
      exec (.regWr 0x08#8 v) s = .next (State.respond { s with framePeriod := v } .none) ∧
      exec (.regWr 0x0A#8 v) s = .next (State.respond { s with readTimeout := v } .none))

/-- 10_state.md R23, R24: a reserved index raises ILLEGAL_COMMAND on read and on write, a write to a
read-only register raises REG_READ_ONLY, a write to a lock register while the pipeline is not IDLE raises
ILLEGAL_STATE. -/
def Obligations.RegisterAccessErrors : Prop :=
  ∀ (s : State) (i : BitVec 8) (v : U32),
    (0x13 < i.toNat →
      exec (.regRd i) s = .next (s.raise .illegalCommand) ∧
      exec (.regWr i v) s = .next (s.raise .illegalCommand)) ∧
    (i.toNat ≤ 0x01 ∨ (0x0B ≤ i.toNat ∧ i.toNat ≤ 0x13) →
      exec (.regWr i v) s = .next (s.raise .regReadOnly)) ∧
    ((0x03 ≤ i.toNat ∧ i.toNat ≤ 0x08) ∨ i.toNat = 0x0A → s.pipeState ≠ .idle →
      exec (.regWr i v) s = .next (s.raise .illegalState))

/-- 44_control.md R215, R216: PIPE_START in each pipeline state. -/
def Obligations.PipeStartOutcomes : Prop :=
  ∀ s : State,
    (s.pipeState = .running ∨ s.pipeState = .publishBlocked →
      exec .pipeStart s = .next (s.respond .none)) ∧
    (s.pipeState = .stopped → exec .pipeStart s = .next (s.raise .illegalState)) ∧
    (s.pipeState = .idle →
      1 ≤ s.numTx.toNat ∧ 1 ≤ s.numRx.toNat ∧ 1 ≤ s.numAdc.toNat ∧ 1 ≤ s.numLoops.toNat ∧
        s.numLoops.toNat * s.numTx.toNat * s.numRx.toNat * s.numAdc.toNat ≤ s.cfg.maxFrameSamples →
      exec .pipeStart s = .next (State.respond
        { s with pipeState := .running, stopReason := .none, stopReq := false, lastPktTime := s.now }
        .none)) ∧
    (s.pipeState = .idle →
      ¬(1 ≤ s.numTx.toNat ∧ 1 ≤ s.numRx.toNat ∧ 1 ≤ s.numAdc.toNat ∧ 1 ≤ s.numLoops.toNat ∧
        s.numLoops.toNat * s.numTx.toNat * s.numRx.toNat * s.numAdc.toNat ≤ s.cfg.maxFrameSamples) →
      exec .pipeStart s = .next (s.raise .configInvalid))

/-- 44_control.md R217: PIPE_STOP, its command word and its effect in each pipeline state. -/
def Obligations.PipeStopOutcomes : Prop :=
  encode .pipeStop = (0x00000005#32, .none) ∧
  ∀ s : State,
    (s.pipeState = .idle ∨ s.pipeState = .running →
      exec .pipeStop s = .next (State.respond
        { s with pipeState := .stopped, stopReason := .stopRequested } .none)) ∧
    (s.pipeState = .publishBlocked →
      exec .pipeStop s = .next (State.respond { s with stopReq := true } .none)) ∧
    (s.pipeState = .stopped → exec .pipeStop s = .next (s.respond .none))

/-- 44_control.md R218, R226, R227: FRAME_POP has command word 0x00000008, holds on an empty channel, and
otherwise takes the oldest frame. A pipeline that is not blocked is not touched. While it is blocked, as many
held frames as find room enter the channel, in order, and are counted; when none is left the pipeline stops
if a stop was requested, and otherwise runs with a fresh data-read wait. -/
def Obligations.FramePopOutcomes : Prop :=
  encode .framePop = (0x00000008#32, .none) ∧
  ∀ s : State,
    (s.outq = [] → exec .framePop s = .next s.hold) ∧
    (∀ f rest, s.outq = f :: rest → s.pipeState ≠ .publishBlocked →
      exec .framePop s = .next (State.respond { s with outq := rest } (.frame f.fid f.frame))) ∧
    (∀ f rest k, s.outq = f :: rest → s.pipeState = .publishBlocked →
      k = min s.holdq.length (s.cfg.outDepth - rest.length) →
      exec .framePop s = .next (State.respond
        { s with
          outq := rest ++ s.holdq.take k
          holdq := s.holdq.drop k
          framesOutTotal := s.framesOutTotal + BitVec.ofNat 32 k
          pipeState := if k < s.holdq.length then .publishBlocked
            else if s.stopReq then .stopped else .running
          stopReason := if k < s.holdq.length then s.stopReason
            else if s.stopReq then .stopRequested else s.stopReason
          stopReq := if k < s.holdq.length then s.stopReq else false
          lastPktTime := if k < s.holdq.length then s.lastPktTime
            else if s.stopReq then s.lastPktTime else s.now }
        (.frame f.fid f.frame)))

/-! ### Reassembly -/

/-- 41_reassembly.md R112: the fields of a datagram, with their byte orders: a little-endian signed
sequence number, a big-endian 48-bit byte offset whose bit 0 the sample offset ignores, the frame id of the
first sample, and little-endian payload words. -/
def Obligations.DatagramFieldsParsed : Prop :=
  ∀ d : List Byte, 10 ≤ d.length →
    (∀ u : Nat, u = (byteAt d 0).toNat + (byteAt d 1).toNat * 2 ^ 8 + (byteAt d 2).toNat * 2 ^ 16 +
        (byteAt d 3).toNat * 2 ^ 24 →
      packetSeq d = if u < 2 ^ 31 then (u : Int) else (u : Int) - 2 ^ 32) ∧
    packetOffset d = (byteAt d 4).toNat * 2 ^ 40 + (byteAt d 5).toNat * 2 ^ 32 +
      (byteAt d 6).toNat * 2 ^ 24 + (byteAt d 7).toNat * 2 ^ 16 + (byteAt d 8).toNat * 2 ^ 8 +
      (byteAt d 9).toNat ∧
    sampleOffset d = packetOffset d >>> 1 ∧
    (∀ S : Nat, sampleOffset d / S = packetOffset d / (2 * S)) ∧
    (packetPayload d).length = (d.length - 10) / 2 ∧
    (∀ i, i < (d.length - 10) / 2 →
      ((packetPayload d).getD i 0#16).toNat =
        (byteAt d (10 + 2 * i)).toNat + (byteAt d (11 + 2 * i)).toNat * 2 ^ 8) ∧
    ∀ i, i < d.length → d[i]? = some (byteAt d i)

/-- 41_reassembly.md R111, R113, 44_control.md R220: PKT_IN turned away. In IDLE and STOPPED it raises
ILLEGAL_STATE, while PUBLISH_BLOCKED it holds; a datagram shorter than 10 bytes, longer than 4096 or with an
odd payload stops the running pipeline and raises MALFORMED_PACKET; nothing else changes. -/
def Obligations.PktInTurnedAway : Prop :=
  ∀ (s : State) (d : List Byte),
    (s.pipeState = .idle ∨ s.pipeState = .stopped →
      exec (.pktIn d) s = .next (s.raise .illegalState)) ∧
    (s.pipeState = .publishBlocked → exec (.pktIn d) s = .next s.hold) ∧
    (s.pipeState = .running → d.length < 10 ∨ 4096 < d.length ∨ (d.length - 10) % 2 = 1 →
      exec (.pktIn d) s = .next (State.raise
        { s with pipeState := .stopped, stopReason := .malformedPacket, stopReq := false }
        .malformedPacket))

/-- 41_reassembly.md R111, R114, R117, R118: PKT_IN of a well-formed datagram by a running pipeline. The
walk places the chunks of the payload one after another (`ChunksCoverPayload`, `ChunkPlacement`), from the
store as it is, with nothing completed and nothing dropped yet; with no completion the store is the walk's;
with one, the policy chooses what is emitted, one eviction pass runs, and each emitted frame goes through
decode and publish (`PublishFollowsPolicy`), in order. -/
def Obligations.PktInTakesDatagram : Prop :=
  ∀ (s : State) (d : List Byte) (w : Walk),
    s.pipeState = .running → 10 ≤ d.length → d.length ≤ 4096 → (d.length - 10) % 2 = 0 →
    w = (splitChunks (packetPayload d).length s.samplesPerFrame (sampleOffset d)
      (packetPayload d)).foldl (placeChunk s.cfg.maxPending s.samplesPerFrame s.now)
      ⟨s.pending, [], false⟩ →
    (w.completed = [] →
      exec (.pktIn d) s = .next (State.respond
        { s with
          lastSeq := BitVec.ofInt 32 (packetSeq d)
          lastPktTime := s.now
          pending := w.pending
          err := if w.overflow then s.err ||| 0x80#32 else s.err }
        (.packet [] []))) ∧
    (w.completed ≠ [] →
      ∀ (emitted : List (Nat × List Word)) (stale : Store),
        emitted = (if s.ctrl.getLsbD 0 then w.completed else w.completed.take 1) →
        stale = w.pending.filter
          (fun q => decide (q.2.firstSeen.toNat + 2 * s.framePeriod.toNat < s.now.toNat)) →
        exec (.pktIn d) s = .next ((emitted.foldl State.pipelineOut
          { s with
            lastSeq := BitVec.ofInt 32 (packetSeq d)
            lastPktTime := s.now
            pending := w.pending.filter
              (fun q => decide (s.now.toNat ≤ q.2.firstSeen.toNat + 2 * s.framePeriod.toNat))
            err := if w.overflow then s.err ||| 0x80#32 else s.err
            discardTotal := if s.ctrl.getLsbD 0 then s.discardTotal
              else s.discardTotal + BitVec.ofNat 32 (w.completed.length - 1)
            evictTotal := s.evictTotal + BitVec.ofNat 32 stale.length }).respond
          (.packet (emitted.map Prod.fst) (stale.map Prod.fst))))

/-- 41_reassembly.md R111, 20_memory.md R69, R72: what PKT_IN leaves unchanged in every pipeline state:
the configuration, the CLI and the transmit port. -/
def Obligations.PktInLeavesRestUnchanged : Prop :=
  ∀ (s t : State) (d : List Byte), exec (.pktIn d) s = .next t →
    t = { s with
      responses := t.responses, err := t.err, lastSeq := t.lastSeq, evictTotal := t.evictTotal
      outDropTotal := t.outDropTotal, discardTotal := t.discardTotal
      framesOutTotal := t.framesOutTotal, pipeState := t.pipeState, stopReason := t.stopReason
      stopReq := t.stopReq, lastPktTime := t.lastPktTime, outq := t.outq, holdq := t.holdq
      pending := t.pending }

/-- 41_reassembly.md R114, R125, 20_memory.md R61: the chunks of a payload are the payload, in order and
with nothing lost or repeated; each lies inside one frame at the place its samples have in the stream; the
frame ids rise strictly; and a run of N samples touches at most (N + S - 1) / S + 1 frames. -/
def Obligations.ChunksCoverPayload : Prop :=
  ∀ (S o : Nat) (ws : List Word) (cs : List Chunk), 1 ≤ S → cs = splitChunks ws.length S o ws →
    (cs.map Chunk.words).flatten = ws ∧
    (∀ c ∈ cs, c.words ≠ [] ∧ c.pos + c.words.length ≤ S) ∧
    (cs.map Chunk.fid).Pairwise (· < ·) ∧
    (∀ k c, cs[k]? = some c →
      c.fid * S + c.pos = o + ((cs.take k).map (fun x => x.words.length)).sum) ∧
    cs.length ≤ (ws.length + S - 1) / S + 1

/-- 30_encoding.md R89 and 41_reassembly.md R125 say that every frame id of a datagram is below 2^47. From
the parse (41_reassembly.md R112, R114) this holds for S of at least 2; with S = 1 an id can be 2^47 or a
little more (notes/assumptions/20.md). -/
def Obligations.FrameIdRange : Prop :=
  (∀ (d : List Byte) (S : Nat) (c : Chunk), malformed d = false → 2 ≤ S →
    c ∈ splitChunks (packetPayload d).length S (sampleOffset d) (packetPayload d) →
      c.fid < 2 ^ 47) ∧
  (∀ (d : List Byte) (c : Chunk), malformed d = false →
    c ∈ splitChunks (packetPayload d).length 1 (sampleOffset d) (packetPayload d) →
      c.fid < 2 ^ 47 + 2 ^ 11) ∧
  ∃ (d : List Byte) (c : Chunk), malformed d = false ∧
    c ∈ splitChunks (packetPayload d).length 1 (sampleOffset d) (packetPayload d) ∧ c.fid = 2 ^ 47

/-- 41_reassembly.md R115, R116, R123: one chunk. With the store full and no entry it is dropped. Otherwise
its positions take its words and no other position changes, `first_seen` stays (a fresh entry has the
current time), and a frame that is now complete leaves the store with its words, in order. No other frame's
entry changes. -/
def Obligations.ChunkPlacement : Prop :=
  ∀ (cap : Option Nat) (S : Nat) (now : Time) (w w' : Walk) (c : Chunk) (e : Entry),
    w' = placeChunk cap S now w c → c.pos + c.words.length ≤ S →
    (storeFind w.pending c.fid = none → cap = some w.pending.length →
      w' = { w with overflow := true }) ∧
    (storeFind w.pending c.fid = some e ∨
        (storeFind w.pending c.fid = none ∧ cap ≠ some w.pending.length ∧
          e = ⟨List.replicate S none, now⟩) →
      e.slots.length = S →
      ∃ slots : List (Option Word), slots.length = S ∧
        (∀ q, q < S → slots[q]? =
          if c.pos ≤ q ∧ q < c.pos + c.words.length then some c.words[q - c.pos]? else e.slots[q]?) ∧
        (none ∈ slots →
          storeFind w'.pending c.fid = some ⟨slots, e.firstSeen⟩ ∧ w'.completed = w.completed) ∧
        (none ∉ slots →
          storeFind w'.pending c.fid = none ∧
          ∃ buf, buf.map some = slots ∧ w'.completed = w.completed ++ [(c.fid, buf)]) ∧
        w'.overflow = w.overflow) ∧
    ∀ other, other ≠ c.fid → storeFind w'.pending other = storeFind w.pending other

/-- 41_reassembly.md R126: chunks of one frame that cover its positions exactly once, in any order, with
any chunking and at any times, complete exactly that frame once, equal to the chunks in offset order, and
leave the store as it was. The premises are R126's: the entry is not evicted meanwhile (the chunks follow
one another) and no chunk is dropped (the store has room). -/
def Obligations.ReassemblyInAnyOrder : Prop :=
  ∀ (cap : Option Nat) (S fid : Nat) (p : Store) (frame : List Word) (cs : List (Time × Chunk)),
    1 ≤ S → frame.length = S → storeFind p fid = none → (∀ n ∈ cap, p.length < n) →
    (∀ c ∈ cs, c.2.fid = fid ∧ c.2.words ≠ [] ∧ c.2.pos + c.2.words.length ≤ S ∧
      c.2.words = (frame.drop c.2.pos).take c.2.words.length) →
    (∀ q, q < S →
      cs.countP (fun c => decide (c.2.pos ≤ q ∧ q < c.2.pos + c.2.words.length)) = 1) →
      cs.foldl (fun w c => placeChunk cap S c.1 w c.2) ⟨p, [], false⟩ = ⟨p, [(fid, frame)], false⟩

/-- 41_reassembly.md R119, R120: EVICT removes exactly the entries with `first_seen + timeout < now`,
counts them, and responds their frame ids in ascending order; nothing else changes. The premise is the
store's canonical form, which is the model's own (notes/assumptions/8.md); every step keeps it
(`StepKeepsStoreSound`). -/
def Obligations.EvictRemovesStale : Prop :=
  ∀ (s : State) (timeout : U32), storeWf s.pending = true →
    ∃ ev : List Nat,
      exec (.evict timeout) s = .next (State.respond
        { s with
          pending := s.pending.filter
            (fun q => decide (s.now.toNat ≤ q.2.firstSeen.toNat + timeout.toNat))
          evictTotal := s.evictTotal + BitVec.ofNat 32 ev.length }
        (.fids ev)) ∧
      ev.Pairwise (· < ·) ∧
      ∀ fid, fid ∈ ev ↔
        ∃ e, (fid, e) ∈ s.pending ∧ e.firstSeen.toNat + timeout.toNat < s.now.toNat

/-- 44_control.md R221 to R225: what decode and publish do with one emitted frame, for each state of the
channel and each policy. -/
def Obligations.PublishFollowsPolicy : Prop :=
  ∀ (s : State) (fid : Nat) (buf : List Word) (f : OutFrame), f = ⟨fid, s.decodeFrame buf⟩ →
    (s.samplesPerFrame % 4 ≠ 0 → s.pipelineOut (fid, buf) = { s with err := s.err ||| 0x40#32 }) ∧
    (s.samplesPerFrame % 4 = 0 →
      (s.pipeState = .publishBlocked →
        s.pipelineOut (fid, buf) = { s with holdq := s.holdq ++ [f] }) ∧
      (s.pipeState ≠ .publishBlocked → s.outq.length < s.cfg.outDepth →
        s.pipelineOut (fid, buf) =
          { s with outq := s.outq ++ [f], framesOutTotal := s.framesOutTotal + 1#32 }) ∧
      (s.pipeState ≠ .publishBlocked → s.cfg.outDepth ≤ s.outq.length → s.ctrl.getLsbD 1 = true →
        s.pipelineOut (fid, buf) =
          { s with
            outq := s.outq.drop 1 ++ [f], framesOutTotal := s.framesOutTotal + 1#32
            outDropTotal := s.outDropTotal + 1#32, err := s.err ||| 0x100#32 }) ∧
      (s.pipeState ≠ .publishBlocked → s.cfg.outDepth ≤ s.outq.length → s.ctrl.getLsbD 1 = false →
        s.pipelineOut (fid, buf) = { s with holdq := [f], pipeState := .publishBlocked }))

/-! ### Decoder -/

/-- 42_rdif_decoder.md R141 to R143, 30_encoding.md R91: UNSWIZZLE responds, block by block, samples whose
bit 4k + j is bit `sh[i] + k` of word Wj, and whose bits [15:12] are 0. -/
def Obligations.UnswizzleBitMap : Prop :=
  ∀ (s : State) (w : List Word), w.length ≤ s.cfg.maxFrameSamples → w.length % 4 = 0 →
    ∃ out : List Word,
      exec (.unswizzle w) s = .next (s.respond (.words out)) ∧ out.length = w.length ∧
      (∀ m i j k, 4 * m + 3 < w.length → i < 4 → j < 4 → k < 3 →
        (out.getD (4 * m + i) 0#16).getLsbD (4 * k + j) =
          (w.getD (4 * m + j) 0#16).getLsbD (9 - 3 * i + k)) ∧
      ∀ x ∈ out, x.toNat < 4096

/-- 42_rdif_decoder.md R144, R145: on arrays of any length that is a multiple of 4, `unswizzle` undoes
`swizzle` on 12-bit samples, and `swizzle` undoes `unswizzle` on bits [11:0] of the words: the map of a
block is a bijection that ignores bits [15:12]. -/
def Obligations.UnswizzleSwizzleInverse : Prop :=
  ∀ l : List Word, l.length % 4 = 0 →
    ((∀ x ∈ l, x.toNat < 4096) → unswizzle (swizzle l) = l) ∧
    swizzle (unswizzle l) = l.map (fun x => x &&& 0x0FFF#16)

/-- 42_rdif_decoder.md R146, R147: RESHAPE of an array of length S responds the same words, each moved
from `((l × T + t) × A + a) × R + r` to `(l × C + c) × A + a` with c = t × R + r; with R = 1 or A = 1 it is
the identity. -/
def Obligations.ReshapeMovesWords : Prop :=
  ∀ (s : State) (u : List Word), s.geometryValid = true → u.length = s.samplesPerFrame →
    ∃ out : List Word,
      exec (.reshape u) s = .next (s.respond (.words out)) ∧ out.length = u.length ∧ out.Perm u ∧
      (∀ l t r a, l < s.numLoops.toNat → t < s.numTx.toNat → r < s.numRx.toNat → a < s.numAdc.toNat →
        out[(l * (s.numTx.toNat * s.numRx.toNat) + (t * s.numRx.toNat + r)) * s.numAdc.toNat + a]? =
          u[((l * s.numTx.toNat + t) * s.numAdc.toNat + a) * s.numRx.toNat + r]?) ∧
      (s.numRx.toNat = 1 ∨ s.numAdc.toNat = 1 → out = u)

/-- 42_rdif_decoder.md R148, R149: SIGNCONV of 12-bit words responds, word by word, the signed value
`v - 4096` above 2047 and `v` otherwise. -/
def Obligations.SignconvValues : Prop :=
  ∀ (s : State) (v : List Word), v.length ≤ s.cfg.maxFrameSamples → (∀ x ∈ v, x.toNat ≤ 0x0FFF) →
    ∃ out : List Word,
      exec (.signconv v) s = .next (s.respond (.words out)) ∧ out.length = v.length ∧
      ∀ x, x < v.length →
        (out.getD x 0#16).toInt =
          if 2047 < (v.getD x 0#16).toNat then ((v.getD x 0#16).toNat : Int) - 4096
          else (v.getD x 0#16).toNat

/-- 42_rdif_decoder.md R151, R153: DECODE_FRAME of a raw frame responds the DecodedFrame whose element
(l, c, a) is the signed value of the unswizzled word at `((l × T + t) × A + a) × R + r` with t = c / R and
r = c % R; it is the frame that decode and publish enter into the channel for the same raw frame. -/
def Obligations.DecodeFrameElements : Prop :=
  ∀ (s : State) (w : List Word), s.geometryValid = true → w.length = s.samplesPerFrame →
    w.length % 4 = 0 →
    ∃ out : List Word,
      exec (.decodeFrame w) s = .next (s.respond (.words out)) ∧ out.length = s.samplesPerFrame ∧
      (∀ l c a (v : Word), l < s.numLoops.toNat → c < s.numTx.toNat * s.numRx.toNat →
        a < s.numAdc.toNat →
        v = (unswizzle w).getD
          (((l * s.numTx.toNat + c / s.numRx.toNat) * s.numAdc.toNat + a) * s.numRx.toNat +
            c % s.numRx.toNat) 0#16 →
        (out.getD ((l * (s.numTx.toNat * s.numRx.toNat) + c) * s.numAdc.toNat + a) 0#16).toInt =
          if 2047 < v.toNat then (v.toNat : Int) - 4096 else v.toNat) ∧
      ∀ fid, s.pipeState ≠ .publishBlocked → s.outq.length < s.cfg.outDepth →
        (s.pipelineOut (fid, w)).outq = s.outq ++ [⟨fid, out⟩]

/-- 60_exceptions.md R245, 42_rdif_decoder.md R140: the checks of the four decoder operations, in their
order, with S (10_state.md R28) and the valid geometry (44_control.md R216) they use. -/
def Obligations.DecoderCheckOrder : Prop :=
  ∀ (s : State) (w : List Word),
    s.samplesPerFrame =
      s.numLoops.toNat * s.numTx.toNat * s.numRx.toNat * s.numAdc.toNat ∧
    (s.geometryValid = true ↔
      1 ≤ s.numTx.toNat ∧ 1 ≤ s.numRx.toNat ∧ 1 ≤ s.numAdc.toNat ∧ 1 ≤ s.numLoops.toNat ∧
        s.samplesPerFrame ≤ s.cfg.maxFrameSamples) ∧
    (s.cfg.maxFrameSamples < w.length →
      exec (.unswizzle w) s = .next (s.raise .badArgument) ∧
      exec (.reshape w) s = .next (s.raise .badArgument) ∧
      exec (.signconv w) s = .next (s.raise .badArgument) ∧
      exec (.decodeFrame w) s = .next (s.raise .badArgument)) ∧
    (w.length ≤ s.cfg.maxFrameSamples →
      (w.length % 4 ≠ 0 →
        exec (.unswizzle w) s = .next (s.raise .invalidBlockLength) ∧
        exec (.decodeFrame w) s = .next (s.raise .invalidBlockLength)) ∧
      (s.geometryValid = false →
        exec (.reshape w) s = .next (s.raise .configInvalid) ∧
        (w.length % 4 = 0 → exec (.decodeFrame w) s = .next (s.raise .configInvalid))) ∧
      (s.geometryValid = true → w.length ≠ s.samplesPerFrame →
        exec (.reshape w) s = .next (s.raise .badArgument) ∧
        (w.length % 4 = 0 → exec (.decodeFrame w) s = .next (s.raise .badArgument))) ∧
      ((∃ x ∈ w, 0x0FFF < x.toNat) → exec (.signconv w) s = .next (s.raise .badArgument)))

/-- 42_rdif_decoder.md R140, 70_reset_and_hazards.md R288: the decoder operations change no state but the
ERR bit of an error they raise. -/
def Obligations.DecoderOperationsPure : Prop :=
  ∀ (s t : State) (w : List Word) (i : Instr),
    i = .unswizzle w ∨ i = .reshape w ∨ i = .signconv w ∨ i = .decodeFrame w → exec i s = .next t →
      (∃ out, t = s.respond (.words out)) ∨ ∃ e, t = s.raise e

/-! ### Serial CLI -/

/-- 43_cli_fsm.md R174, R178, R184, R185, R186, 30_encoding.md R94: the operations that send one command.
The line, for the fixed ones the 19 bytes `sensorStart 0 0 0 0` and the 12 bytes `sensorStop 0`, goes out
with its LF, the deadline is `now + CLI_TIMEOUT` on unbounded integers, the FSM waits, and the job has no
outcome and no result yet; CLI_CLOSE does so over a waiting job as well. -/
def Obligations.CliCommandsTransmit : Prop :=
  ∀ (s : State) (sensorStart sensorStop : List Byte),
    sensorStart = [0x73#8, 0x65#8, 0x6E#8, 0x73#8, 0x6F#8, 0x72#8, 0x53#8, 0x74#8, 0x61#8, 0x72#8,
      0x74#8, 0x20#8, 0x30#8, 0x20#8, 0x30#8, 0x20#8, 0x30#8, 0x20#8, 0x30#8] →
    sensorStop = [0x73#8, 0x65#8, 0x6E#8, 0x73#8, 0x6F#8, 0x72#8, 0x53#8, 0x74#8, 0x6F#8, 0x70#8,
      0x20#8, 0x30#8] →
    (∀ line : List Byte, s.cliState = .idle → 0x0A#8 ∉ line → line.length ≤ s.cfg.maxLine →
      exec (.cliSend line) s = .next (State.respond
        { s with
          tx := s.tx ++ line ++ [0x0A#8], cliDeadline := s.now.toNat + s.cliTimeout.toNat
          cliState := .wait, cliJob := .send, cliOutcome := .none, cliResult := .none } .none)) ∧
    (s.cliState = .idle →
      exec .cliStart s = .next (State.respond
        { s with
          tx := s.tx ++ sensorStart ++ [0x0A#8]
          cliDeadline := s.now.toNat + s.cliTimeout.toNat
          cliState := .wait, cliJob := .start, cliOutcome := .none, cliResult := .none } .none)) ∧
    (s.cliState = .idle →
      exec .cliStop s = .next (State.respond
        { s with
          tx := s.tx ++ sensorStop ++ [0x0A#8]
          cliDeadline := s.now.toNat + s.cliTimeout.toNat
          cliState := .wait, cliJob := .stop, cliOutcome := .none, cliResult := .none } .none)) ∧
    (s.cliState ≠ .closed →
      exec .cliClose s = .next (State.respond
        { s with
          tx := s.tx ++ sensorStop ++ [0x0A#8]
          cliDeadline := s.now.toNat + s.cliTimeout.toNat
          cliState := .wait, cliJob := .close, cliOutcome := .none, cliResult := .none } .none))

/-- 43_cli_fsm.md R173, R187, R188: a sending operation raises PORT_CLOSED on a closed port and CLI_BUSY
while a command waits, before any check of its argument; an invalid line raises BAD_ARGUMENT; on a closed
port CLI_CLOSE and CLI_RX_BYTE do nothing and respond OK. -/
def Obligations.CliGateErrors : Prop :=
  ∀ (s : State) (l : List Byte) (b : Byte),
    (s.cliState = .closed →
      exec (.cliSend l) s = .next (s.raise .portClosed) ∧
      exec (.cliSendConfig l) s = .next (s.raise .portClosed) ∧
      exec .cliStart s = .next (s.raise .portClosed) ∧
      exec .cliStop s = .next (s.raise .portClosed) ∧
      exec .cliClose s = .next (s.respond .none) ∧
      exec (.cliRxByte b) s = .next (s.respond .none)) ∧
    (s.cliState = .wait →
      exec (.cliSend l) s = .next (s.raise .cliBusy) ∧
      exec (.cliSendConfig l) s = .next (s.raise .cliBusy) ∧
      exec .cliStart s = .next (s.raise .cliBusy) ∧
      exec .cliStop s = .next (s.raise .cliBusy)) ∧
    (s.cliState = .idle → 0x0A#8 ∈ l ∨ s.cfg.maxLine < l.length →
      exec (.cliSend l) s = .next (s.raise .badArgument))

/-- 43_cli_fsm.md R181: CLI_SEND_CONFIG of a text that is too long, that has a forwardable line too long,
that has no forwardable line, and of any other text. -/
def Obligations.CliSendConfigOutcomes : Prop :=
  ∀ (s : State) (text : List Byte), s.cliState = .idle →
    (s.cfg.maxCfgBytes < text.length →
      exec (.cliSendConfig text) s = .next (s.raise .badArgument)) ∧
    ((∃ l ∈ forwardableLines text, s.cfg.maxLine < l.bytes.length) →
      exec (.cliSendConfig text) s = .next (s.raise .badArgument)) ∧
    (text.length ≤ s.cfg.maxCfgBytes → forwardableLines text = [] →
      exec (.cliSendConfig text) s = .next (State.respond
        { s with
          cliJob := .config, cliOutcome := .none, cliResult := .success, cfgLines := []
          cfgIdx := 0 } .none)) ∧
    (∀ l ls, text.length ≤ s.cfg.maxCfgBytes → forwardableLines text = l :: ls →
      (∀ x ∈ l :: ls, x.bytes.length ≤ s.cfg.maxLine) →
      exec (.cliSendConfig text) s = .next (State.respond
        { s with
          tx := s.tx ++ l.bytes ++ [0x0A#8], cliDeadline := s.now.toNat + s.cliTimeout.toNat
          cliState := .wait, cliJob := .config, cliOutcome := .none, cliResult := .none
          cfgLines := l :: ls, cfgIdx := 0 } .none))

/-- 43_cli_fsm.md R179, R180: the lines of a text are its pieces between LFs, none after a final LF; one
trailing CR is removed from each; the forwardable ones are those that are neither blank nor a comment, in
order, numbered from 1 over all lines. -/
def Obligations.ConfigTextLines : Prop :=
  ∀ t : List Byte,
    (∀ l ∈ splitLines t, 0x0A#8 ∉ l) ∧
    ((splitLines t).flatMap (fun l => l ++ [0x0A#8]) =
      if t = [] ∨ t.getLast? = some 0x0A#8 then t else t ++ [0x0A#8]) ∧
    (forwardableLines t = ((splitLines t).zipIdx 1).filterMap (fun p =>
      if isForwardable (dropTrailingCR p.1) then some ⟨lineNumber p.2, dropTrailingCR p.1⟩
      else none)) ∧
    (∀ n, n < 2 ^ 32 → lineNumber n = BitVec.ofNat 32 n) ∧
    dropTrailingCR (t ++ [0x0D#8]) = t ∧
    (t.getLast? ≠ some 0x0D#8 → dropTrailingCR t = t) ∧
    (isForwardable t = false ↔
      (∀ b ∈ t, b = 0x20#8 ∨ b = 0x09#8) ∨
      ∃ sp rest, t = sp ++ 0x25#8 :: rest ∧ ∀ b ∈ sp, b = 0x20#8 ∨ b = 0x09#8)

/-- 43_cli_fsm.md R190 to R192, 30_encoding.md R93: CLI_RX_BYTE of a byte that ends no WAIT: an
undecodable byte, a character with and without room for it, and an LF whose line is discarded or matches
nothing. -/
def Obligations.RxByteCollectsLine : Prop :=
  ∀ (s : State) (b : Byte), s.cliState ≠ .closed →
    (0x80 ≤ b.toNat → exec (.cliRxByte b) s = .next (s.respond .none)) ∧
    (b.toNat < 0x80 → b ≠ 0x0A#8 → s.rxBuf.length < s.cfg.maxLine →
      exec (.cliRxByte b) s = .next (State.respond { s with rxBuf := s.rxBuf ++ [b] } .none)) ∧
    (b.toNat < 0x80 → b ≠ 0x0A#8 → s.cfg.maxLine ≤ s.rxBuf.length →
      exec (.cliRxByte b) s = .next (State.respond { s with err := s.err ||| 0x1000#32 } .none)) ∧
    (b = 0x0A#8 → s.cliState = .idle ∨
        (¬[0x45#8, 0x72#8, 0x72#8, 0x6F#8, 0x72#8] <:+: s.rxBuf ∧
          ¬[0x44#8, 0x6F#8, 0x6E#8, 0x65#8] <:+: s.rxBuf) →
      exec (.cliRxByte b) s = .next (State.respond { s with rxBuf := [] } .none))

/-- 43_cli_fsm.md R172: a line matches a keyword when it occurs in it as a contiguous byte substring;
"Error" wins over "Done". -/
def Obligations.LineMatchIsSubstring : Prop :=
  (∀ l k : List Byte, containsBytes l k = true ↔ k <:+: l) ∧
  ∀ line : List Byte,
    (matchLine line = .rejected ↔ [0x45#8, 0x72#8, 0x72#8, 0x6F#8, 0x72#8] <:+: line) ∧
    (matchLine line = .acknowledged ↔
      ¬[0x45#8, 0x72#8, 0x72#8, 0x6F#8, 0x72#8] <:+: line ∧
        [0x44#8, 0x6F#8, 0x6E#8, 0x65#8] <:+: line) ∧
    matchLine line ≠ .timedOut

/-- 43_cli_fsm.md R175, R177, R183: the LF of a keyword line while a command waits, for every job: the
result of a single command, the end of a CLOSE job, and the step of a CONFIG job. -/
def Obligations.KeywordLineEndsWait : Prop :=
  ∀ (s : State) (o : CliOutcome), s.cliState = .wait → o = matchLine s.rxBuf → o ≠ .none →
    (s.cliJob = .send ∨ s.cliJob = .start ∨ s.cliJob = .stop →
      exec (.cliRxByte 0x0A#8) s = .next (State.respond
        { s with
          rxBuf := [], cliOutcome := o, cliState := .idle
          cliResult := if o = .acknowledged then .success else .fail } .none)) ∧
    (s.cliJob = .close →
      exec (.cliRxByte 0x0A#8) s = .next (State.respond
        { s with rxBuf := [], cliOutcome := o, cliState := .closed, cliResult := .success } .none)) ∧
    (s.cliJob = .config → o = .rejected →
      exec (.cliRxByte 0x0A#8) s = .next (State.respond
        { s with
          rxBuf := [], cliOutcome := o, cliState := .idle, cliResult := .fail
          err := s.err ||| 0x200#32 } .none)) ∧
    (∀ l, s.cliJob = .config → o = .acknowledged → s.cfgLines[s.cfgIdx + 1]? = some l →
      exec (.cliRxByte 0x0A#8) s = .next (State.respond
        { s with
          rxBuf := [], cliOutcome := .none, cliState := .wait, cfgIdx := s.cfgIdx + 1
          tx := s.tx ++ l.bytes ++ [0x0A#8]
          cliDeadline := s.now.toNat + s.cliTimeout.toNat } .none)) ∧
    (s.cliJob = .config → o = .acknowledged → s.cfgLines.length ≤ s.cfgIdx + 1 →
      exec (.cliRxByte 0x0A#8) s = .next (State.respond
        { s with
          rxBuf := [], cliOutcome := o, cliState := .idle, cliResult := .success
          cfgIdx := s.cfgIdx + 1 } .none))

/-- 43_cli_fsm.md R193: the LF of a keyword line presented to the block while a single command waits. Up to
and at the deadline "Done" gives SUCCESS and "Error" gives FAIL; after it the command has timed out and the
line is discarded. -/
def Obligations.KeywordBeforeDeadlineDecides : Prop :=
  ∀ (s : State) (now : Time) (rest : List Event),
    s.cliState = .wait → s.cliJob = .send ∨ s.cliJob = .start ∨ s.cliJob = .stop →
    s.input = .op ⟨0x00000012#32, .u8 0x0A#8, now⟩ :: rest → s.now.toNat ≤ now.toNat →
    matchLine s.rxBuf ≠ .none →
      ∃ t, step s = .next t ∧ t.cliState = .idle ∧ t.rxBuf = [] ∧
        (now.toNat ≤ s.cliDeadline → matchLine s.rxBuf = .acknowledged →
          t.cliOutcome = .acknowledged ∧ t.cliResult = .success) ∧
        (now.toNat ≤ s.cliDeadline → matchLine s.rxBuf = .rejected →
          t.cliOutcome = .rejected ∧ t.cliResult = .fail) ∧
        (s.cliDeadline < now.toNat → t.cliOutcome = .timedOut ∧ t.cliResult = .fail)

/-! ### The whole machine -/

/-- 44_control.md R219: one operation moves the pipeline only along the table, and for the table's reasons;
STOPPED, with its reason, lasts until reset. -/
def Obligations.PipelineTransitions : Prop :=
  ∀ (s t : State) (o : Operation) (rest : List Event),
    s.input = .op o :: rest → step s = .next t →
    (s.pipeState = .stopped → t.pipeState = .stopped ∧ t.stopReason = s.stopReason) ∧
    (s.pipeState = .idle →
      t.pipeState = .idle ∨
      (t.pipeState = .running ∧ decode o.cmd o.arg = .ok .pipeStart) ∨
      (t.pipeState = .stopped ∧ t.stopReason = .stopRequested ∧
        decode o.cmd o.arg = .ok .pipeStop)) ∧
    (s.pipeState = .running →
      t.pipeState = .running ∨
      (t.pipeState = .publishBlocked ∧ ∃ d, decode o.cmd o.arg = .ok (.pktIn d)) ∨
      (t.pipeState = .stopped ∧
        ((t.stopReason = .stopRequested ∧ decode o.cmd o.arg = .ok .pipeStop) ∨
          (t.stopReason = .protocolTimeout ∧
            s.lastPktTime.toNat + s.readTimeout.toNat < o.now.toNat) ∨
          (t.stopReason = .malformedPacket ∧
            ∃ d, decode o.cmd o.arg = .ok (.pktIn d) ∧ malformed d = true)))) ∧
    (s.pipeState = .publishBlocked →
      t.pipeState = .publishBlocked ∨
      (decode o.cmd o.arg = .ok .framePop ∧
        ((t.pipeState = .running ∧ s.stopReq = false) ∨
          (t.pipeState = .stopped ∧ t.stopReason = .stopRequested ∧ s.stopReq = true))))

/-- 43_cli_fsm.md R188: CLOSED lasts until reset, and a closed port transmits nothing. -/
def Obligations.ClosedPortStaysClosed : Prop :=
  ∀ (s t : State) (o : Operation) (rest : List Event),
    s.input = .op o :: rest → step s = .next t → s.cliState = .closed →
      t.cliState = .closed ∧ t.tx = s.tx ∧ t.cliJob = s.cliJob ∧ t.cliOutcome = s.cliOutcome ∧
        t.cliResult = s.cliResult ∧ t.rxBuf = s.rxBuf

/-- 70_reset_and_hazards.md R281: once the pipeline has left IDLE no operation changes NUM_TX, NUM_RX,
NUM_ADC, NUM_LOOPS, CTRL, FRAME_PERIOD or READ_TIMEOUT, so S is constant. -/
def Obligations.ConfigurationLocked : Prop :=
  ∀ (s t : State) (o : Operation) (rest : List Event),
    s.input = .op o :: rest → step s = .next t → s.pipeState ≠ .idle →
      t.pipeState ≠ .idle ∧ t.numTx = s.numTx ∧ t.numRx = s.numRx ∧ t.numAdc = s.numAdc ∧
        t.numLoops = s.numLoops ∧ t.ctrl = s.ctrl ∧ t.framePeriod = s.framePeriod ∧
        t.readTimeout = s.readTimeout ∧ t.samplesPerFrame = s.samplesPerFrame

/-- 20_memory.md R69: only PKT_IN and EVICT change the pending store. -/
def Obligations.PendingStoreOwned : Prop :=
  ∀ (s t : State) (o : Operation) (rest : List Event),
    s.input = .op o :: rest → step s = .next t → t.pending ≠ s.pending →
      (∃ d, decode o.cmd o.arg = .ok (.pktIn d)) ∨
      ∃ timeout, decode o.cmd o.arg = .ok (.evict timeout)

/-- 10_state.md R33: an ERR bit that is 1 stays 1 through every operation but a REG_WR to ERR that writes 1
to it. -/
def Obligations.ErrBitsSticky : Prop :=
  ∀ (s t : State) (o : Operation) (rest : List Event) (b : Nat),
    s.input = .op o :: rest → step s = .next t → s.err.getLsbD b = true →
      t.err.getLsbD b = true ∨
      ∃ v : U32, decode o.cmd o.arg = .ok (.regWr 0x02#8 v) ∧ v.getLsbD b = true

/-- 60_exceptions.md R242, 70_reset_and_hazards.md R282: an operation that responds ERR leaves the state as
it was but for the ERR bit and the response, and MALFORMED_PACKET for the pipeline stop; one that responds
HOLD leaves it as it was but for the response. -/
def Obligations.ErrorsArePrecise : Prop :=
  ∀ (i : Instr) (s t : State) (r : Response),
    exec i s = .next t → t.responses = s.responses ++ [r] →
      (r.kind = .err → ∃ e, r.code = BitVec.ofNat 8 (errorCode e) ∧
        (t = s.raise e ∨
          (e = .malformedPacket ∧ (∃ d, i = .pktIn d) ∧
            t = State.raise
              { s with pipeState := .stopped, stopReason := .malformedPacket, stopReq := false } e))) ∧
      (r.kind = .hold → t = s.hold)

/-- 44_control.md R228: no time-out can change a quiescent state, whatever the time. -/
def Obligations.QuiescentOutlastsTime : Prop :=
  ∀ (s : State) (rest : List Event) (now : Time), s.quiescent = true →
    State.timeCheck { s with input := rest, now := now } = { s with input := rest, now := now }

/-! ### Invariants -/

/-- 10_state.md R23, R26, R27, R33: the reserved fields of the registers hold 0 after every step. -/
def Obligations.StepKeepsReservedZero : Prop :=
  ∀ s t : State, ReservedZero s → step s = .next t → ReservedZero t

/-- 10_state.md R37, R38, 41_reassembly.md R110: the pipeline state agrees with its stop reason, its stop
request, its held frames and its geometry after every step. -/
def Obligations.StepKeepsPipelineConsistent : Prop :=
  ∀ s t : State, PipelineConsistent s → step s = .next t → PipelineConsistent t

/-- 10_state.md R38, 44_control.md R222 to R226: the channel keeps its capacity, and the pipeline is blocked
only on a full channel under the blocking policy, after every step. -/
def Obligations.StepKeepsChannelBounded : Prop :=
  ∀ s t : State, ChannelBounded s → step s = .next t → ChannelBounded t

/-- 10_state.md R38, 42_rdif_decoder.md R152: every frame in the channel or held for it is a DecodedFrame of
S values in [-2048, 2047], after every step. -/
def Obligations.StepKeepsFramesDecoded : Prop :=
  ∀ s t : State, FramesDecoded s → step s = .next t → FramesDecoded t

/-- 10_state.md R36: the pending store is within MAX_PENDING, and every entry has S positions and at least
one that is not filled, after every step. The clause that its list is canonical, the frame ids rising
strictly, is the model's own and no rule of the spec (notes/assumptions/8.md, DEDUCED). -/
def Obligations.StepKeepsStoreSound : Prop :=
  ∀ s t : State, StoreSound s → step s = .next t → StoreSound t

/-- 10_state.md R35, R39, 30_encoding.md R93, 43_cli_fsm.md R177: the CLI FSM agrees with its job, its
configuration cursor and its receive buffer after every step. -/
def Obligations.StepKeepsCliConsistent : Prop :=
  ∀ s t : State, CliConsistent s → step s = .next t → CliConsistent t

/-- 70_reset_and_hazards.md R285: with time that does not go back, the stored time stamps stay behind the
time of the last operation, after every step. -/
def Obligations.StepKeepsTimesPast : Prop :=
  ∀ s t : State, TimesPast s → step s = .next t → TimesPast t

/-- 10_state.md R42: every invariant holds after reset, whatever the parameters; the channel's needs them to
be legal (00_scope.md R6). The store's canonical form among them is the model's own
(notes/assumptions/8.md). -/
def Obligations.ResetMeetsInvariants : Prop :=
  ∀ c : Config,
    ReservedZero (State.resetWith c) ∧ PipelineConsistent (State.resetWith c) ∧
    (c.wf = true → ChannelBounded (State.resetWith c)) ∧ FramesDecoded (State.resetWith c) ∧
    StoreSound (State.resetWith c) ∧ CliConsistent (State.resetWith c) ∧
    TimesPast (State.resetWith c) ∧ (State.resetWith c).quiescent = true
end

