-- ==== Sys2Proof/Laws/State.lean ====
section
/-! SUPPORT. One lemma per field per update of the state, so that no later proof unfolds a record update. -/

namespace Sys2Proof.Machine

variable (s : State)

/-! ### answer -/

@[simp] theorem State.answer_cfg (r : Response) : (s.answer r).cfg = s.cfg := rfl
@[simp] theorem State.answer_input (r : Response) : (s.answer r).input = s.input := rfl
@[simp] theorem State.answer_now (r : Response) : (s.answer r).now = s.now := rfl
@[simp] theorem State.answer_responses (r : Response) :
    (s.answer r).responses = s.responses ++ [r] := rfl
@[simp] theorem State.answer_tx (r : Response) : (s.answer r).tx = s.tx := rfl
@[simp] theorem State.answer_err (r : Response) : (s.answer r).err = s.err := rfl
@[simp] theorem State.answer_ctrl (r : Response) : (s.answer r).ctrl = s.ctrl := rfl
@[simp] theorem State.answer_numTx (r : Response) : (s.answer r).numTx = s.numTx := rfl
@[simp] theorem State.answer_numRx (r : Response) : (s.answer r).numRx = s.numRx := rfl
@[simp] theorem State.answer_numAdc (r : Response) : (s.answer r).numAdc = s.numAdc := rfl
@[simp] theorem State.answer_numLoops (r : Response) : (s.answer r).numLoops = s.numLoops := rfl
@[simp] theorem State.answer_framePeriod (r : Response) :
    (s.answer r).framePeriod = s.framePeriod := rfl
@[simp] theorem State.answer_cliTimeout (r : Response) :
    (s.answer r).cliTimeout = s.cliTimeout := rfl
@[simp] theorem State.answer_readTimeout (r : Response) :
    (s.answer r).readTimeout = s.readTimeout := rfl
@[simp] theorem State.answer_lastSeq (r : Response) : (s.answer r).lastSeq = s.lastSeq := rfl
@[simp] theorem State.answer_evictTotal (r : Response) :
    (s.answer r).evictTotal = s.evictTotal := rfl
@[simp] theorem State.answer_outDropTotal (r : Response) :
    (s.answer r).outDropTotal = s.outDropTotal := rfl
@[simp] theorem State.answer_discardTotal (r : Response) :
    (s.answer r).discardTotal = s.discardTotal := rfl
@[simp] theorem State.answer_framesOutTotal (r : Response) :
    (s.answer r).framesOutTotal = s.framesOutTotal := rfl
@[simp] theorem State.answer_pipeState (r : Response) : (s.answer r).pipeState = s.pipeState := rfl
@[simp] theorem State.answer_stopReason (r : Response) :
    (s.answer r).stopReason = s.stopReason := rfl
@[simp] theorem State.answer_stopReq (r : Response) : (s.answer r).stopReq = s.stopReq := rfl
@[simp] theorem State.answer_lastPktTime (r : Response) :
    (s.answer r).lastPktTime = s.lastPktTime := rfl
@[simp] theorem State.answer_outq (r : Response) : (s.answer r).outq = s.outq := rfl
@[simp] theorem State.answer_holdq (r : Response) : (s.answer r).holdq = s.holdq := rfl
@[simp] theorem State.answer_pending (r : Response) : (s.answer r).pending = s.pending := rfl
@[simp] theorem State.answer_cliState (r : Response) : (s.answer r).cliState = s.cliState := rfl
@[simp] theorem State.answer_cliJob (r : Response) : (s.answer r).cliJob = s.cliJob := rfl
@[simp] theorem State.answer_cliOutcome (r : Response) :
    (s.answer r).cliOutcome = s.cliOutcome := rfl
@[simp] theorem State.answer_cliResult (r : Response) : (s.answer r).cliResult = s.cliResult := rfl
@[simp] theorem State.answer_cliDeadline (r : Response) :
    (s.answer r).cliDeadline = s.cliDeadline := rfl
@[simp] theorem State.answer_rxBuf (r : Response) : (s.answer r).rxBuf = s.rxBuf := rfl
@[simp] theorem State.answer_cfgLines (r : Response) : (s.answer r).cfgLines = s.cfgLines := rfl
@[simp] theorem State.answer_cfgIdx (r : Response) : (s.answer r).cfgIdx = s.cfgIdx := rfl

/-! ### respond -/

@[simp] theorem State.respond_cfg (d : RespData) : (s.respond d).cfg = s.cfg := rfl
@[simp] theorem State.respond_input (d : RespData) : (s.respond d).input = s.input := rfl
@[simp] theorem State.respond_now (d : RespData) : (s.respond d).now = s.now := rfl
@[simp] theorem State.respond_responses (d : RespData) :
    (s.respond d).responses = s.responses ++ [okResponse d] := rfl
@[simp] theorem State.respond_tx (d : RespData) : (s.respond d).tx = s.tx := rfl
@[simp] theorem State.respond_err (d : RespData) : (s.respond d).err = s.err := rfl
@[simp] theorem State.respond_ctrl (d : RespData) : (s.respond d).ctrl = s.ctrl := rfl
@[simp] theorem State.respond_numTx (d : RespData) : (s.respond d).numTx = s.numTx := rfl
@[simp] theorem State.respond_numRx (d : RespData) : (s.respond d).numRx = s.numRx := rfl
@[simp] theorem State.respond_numAdc (d : RespData) : (s.respond d).numAdc = s.numAdc := rfl
@[simp] theorem State.respond_numLoops (d : RespData) : (s.respond d).numLoops = s.numLoops := rfl
@[simp] theorem State.respond_framePeriod (d : RespData) :
    (s.respond d).framePeriod = s.framePeriod := rfl
@[simp] theorem State.respond_cliTimeout (d : RespData) :
    (s.respond d).cliTimeout = s.cliTimeout := rfl
@[simp] theorem State.respond_readTimeout (d : RespData) :
    (s.respond d).readTimeout = s.readTimeout := rfl
@[simp] theorem State.respond_lastSeq (d : RespData) : (s.respond d).lastSeq = s.lastSeq := rfl
@[simp] theorem State.respond_evictTotal (d : RespData) :
    (s.respond d).evictTotal = s.evictTotal := rfl
@[simp] theorem State.respond_outDropTotal (d : RespData) :
    (s.respond d).outDropTotal = s.outDropTotal := rfl
@[simp] theorem State.respond_discardTotal (d : RespData) :
    (s.respond d).discardTotal = s.discardTotal := rfl
@[simp] theorem State.respond_framesOutTotal (d : RespData) :
    (s.respond d).framesOutTotal = s.framesOutTotal := rfl
@[simp] theorem State.respond_pipeState (d : RespData) :
    (s.respond d).pipeState = s.pipeState := rfl
@[simp] theorem State.respond_stopReason (d : RespData) :
    (s.respond d).stopReason = s.stopReason := rfl
@[simp] theorem State.respond_stopReq (d : RespData) : (s.respond d).stopReq = s.stopReq := rfl
@[simp] theorem State.respond_lastPktTime (d : RespData) :
    (s.respond d).lastPktTime = s.lastPktTime := rfl
@[simp] theorem State.respond_outq (d : RespData) : (s.respond d).outq = s.outq := rfl
@[simp] theorem State.respond_holdq (d : RespData) : (s.respond d).holdq = s.holdq := rfl
@[simp] theorem State.respond_pending (d : RespData) : (s.respond d).pending = s.pending := rfl
@[simp] theorem State.respond_cliState (d : RespData) : (s.respond d).cliState = s.cliState := rfl
@[simp] theorem State.respond_cliJob (d : RespData) : (s.respond d).cliJob = s.cliJob := rfl
@[simp] theorem State.respond_cliOutcome (d : RespData) :
    (s.respond d).cliOutcome = s.cliOutcome := rfl
@[simp] theorem State.respond_cliResult (d : RespData) :
    (s.respond d).cliResult = s.cliResult := rfl
@[simp] theorem State.respond_cliDeadline (d : RespData) :
    (s.respond d).cliDeadline = s.cliDeadline := rfl
@[simp] theorem State.respond_rxBuf (d : RespData) : (s.respond d).rxBuf = s.rxBuf := rfl
@[simp] theorem State.respond_cfgLines (d : RespData) : (s.respond d).cfgLines = s.cfgLines := rfl
@[simp] theorem State.respond_cfgIdx (d : RespData) : (s.respond d).cfgIdx = s.cfgIdx := rfl

/-! ### hold -/

@[simp] theorem State.hold_cfg : (s.hold).cfg = s.cfg := rfl
@[simp] theorem State.hold_input : (s.hold).input = s.input := rfl
@[simp] theorem State.hold_now : (s.hold).now = s.now := rfl
@[simp] theorem State.hold_responses : (s.hold).responses = s.responses ++ [holdResponse] := rfl
@[simp] theorem State.hold_tx : (s.hold).tx = s.tx := rfl
@[simp] theorem State.hold_err : (s.hold).err = s.err := rfl
@[simp] theorem State.hold_ctrl : (s.hold).ctrl = s.ctrl := rfl
@[simp] theorem State.hold_numTx : (s.hold).numTx = s.numTx := rfl
@[simp] theorem State.hold_numRx : (s.hold).numRx = s.numRx := rfl
@[simp] theorem State.hold_numAdc : (s.hold).numAdc = s.numAdc := rfl
@[simp] theorem State.hold_numLoops : (s.hold).numLoops = s.numLoops := rfl
@[simp] theorem State.hold_framePeriod : (s.hold).framePeriod = s.framePeriod := rfl
@[simp] theorem State.hold_cliTimeout : (s.hold).cliTimeout = s.cliTimeout := rfl
@[simp] theorem State.hold_readTimeout : (s.hold).readTimeout = s.readTimeout := rfl
@[simp] theorem State.hold_lastSeq : (s.hold).lastSeq = s.lastSeq := rfl
@[simp] theorem State.hold_evictTotal : (s.hold).evictTotal = s.evictTotal := rfl
@[simp] theorem State.hold_outDropTotal : (s.hold).outDropTotal = s.outDropTotal := rfl
@[simp] theorem State.hold_discardTotal : (s.hold).discardTotal = s.discardTotal := rfl
@[simp] theorem State.hold_framesOutTotal : (s.hold).framesOutTotal = s.framesOutTotal := rfl
@[simp] theorem State.hold_pipeState : (s.hold).pipeState = s.pipeState := rfl
@[simp] theorem State.hold_stopReason : (s.hold).stopReason = s.stopReason := rfl
@[simp] theorem State.hold_stopReq : (s.hold).stopReq = s.stopReq := rfl
@[simp] theorem State.hold_lastPktTime : (s.hold).lastPktTime = s.lastPktTime := rfl
@[simp] theorem State.hold_outq : (s.hold).outq = s.outq := rfl
@[simp] theorem State.hold_holdq : (s.hold).holdq = s.holdq := rfl
@[simp] theorem State.hold_pending : (s.hold).pending = s.pending := rfl
@[simp] theorem State.hold_cliState : (s.hold).cliState = s.cliState := rfl
@[simp] theorem State.hold_cliJob : (s.hold).cliJob = s.cliJob := rfl
@[simp] theorem State.hold_cliOutcome : (s.hold).cliOutcome = s.cliOutcome := rfl
@[simp] theorem State.hold_cliResult : (s.hold).cliResult = s.cliResult := rfl
@[simp] theorem State.hold_cliDeadline : (s.hold).cliDeadline = s.cliDeadline := rfl
@[simp] theorem State.hold_rxBuf : (s.hold).rxBuf = s.rxBuf := rfl
@[simp] theorem State.hold_cfgLines : (s.hold).cfgLines = s.cfgLines := rfl
@[simp] theorem State.hold_cfgIdx : (s.hold).cfgIdx = s.cfgIdx := rfl

/-! ### setErr -/

@[simp] theorem State.setErr_cfg (e : ErrorCode) : (s.setErr e).cfg = s.cfg := rfl
@[simp] theorem State.setErr_input (e : ErrorCode) : (s.setErr e).input = s.input := rfl
@[simp] theorem State.setErr_now (e : ErrorCode) : (s.setErr e).now = s.now := rfl
@[simp] theorem State.setErr_responses (e : ErrorCode) : (s.setErr e).responses = s.responses := rfl
@[simp] theorem State.setErr_tx (e : ErrorCode) : (s.setErr e).tx = s.tx := rfl
@[simp] theorem State.setErr_err (e : ErrorCode) : (s.setErr e).err = s.err ||| errorBit e := rfl
@[simp] theorem State.setErr_ctrl (e : ErrorCode) : (s.setErr e).ctrl = s.ctrl := rfl
@[simp] theorem State.setErr_numTx (e : ErrorCode) : (s.setErr e).numTx = s.numTx := rfl
@[simp] theorem State.setErr_numRx (e : ErrorCode) : (s.setErr e).numRx = s.numRx := rfl
@[simp] theorem State.setErr_numAdc (e : ErrorCode) : (s.setErr e).numAdc = s.numAdc := rfl
@[simp] theorem State.setErr_numLoops (e : ErrorCode) : (s.setErr e).numLoops = s.numLoops := rfl
@[simp] theorem State.setErr_framePeriod (e : ErrorCode) :
    (s.setErr e).framePeriod = s.framePeriod := rfl
@[simp] theorem State.setErr_cliTimeout (e : ErrorCode) :
    (s.setErr e).cliTimeout = s.cliTimeout := rfl
@[simp] theorem State.setErr_readTimeout (e : ErrorCode) :
    (s.setErr e).readTimeout = s.readTimeout := rfl
@[simp] theorem State.setErr_lastSeq (e : ErrorCode) : (s.setErr e).lastSeq = s.lastSeq := rfl
@[simp] theorem State.setErr_evictTotal (e : ErrorCode) :
    (s.setErr e).evictTotal = s.evictTotal := rfl
@[simp] theorem State.setErr_outDropTotal (e : ErrorCode) :
    (s.setErr e).outDropTotal = s.outDropTotal := rfl
@[simp] theorem State.setErr_discardTotal (e : ErrorCode) :
    (s.setErr e).discardTotal = s.discardTotal := rfl
@[simp] theorem State.setErr_framesOutTotal (e : ErrorCode) :
    (s.setErr e).framesOutTotal = s.framesOutTotal := rfl
@[simp] theorem State.setErr_pipeState (e : ErrorCode) : (s.setErr e).pipeState = s.pipeState := rfl
@[simp] theorem State.setErr_stopReason (e : ErrorCode) :
    (s.setErr e).stopReason = s.stopReason := rfl
@[simp] theorem State.setErr_stopReq (e : ErrorCode) : (s.setErr e).stopReq = s.stopReq := rfl
@[simp] theorem State.setErr_lastPktTime (e : ErrorCode) :
    (s.setErr e).lastPktTime = s.lastPktTime := rfl
@[simp] theorem State.setErr_outq (e : ErrorCode) : (s.setErr e).outq = s.outq := rfl
@[simp] theorem State.setErr_holdq (e : ErrorCode) : (s.setErr e).holdq = s.holdq := rfl
@[simp] theorem State.setErr_pending (e : ErrorCode) : (s.setErr e).pending = s.pending := rfl
@[simp] theorem State.setErr_cliState (e : ErrorCode) : (s.setErr e).cliState = s.cliState := rfl
@[simp] theorem State.setErr_cliJob (e : ErrorCode) : (s.setErr e).cliJob = s.cliJob := rfl
@[simp] theorem State.setErr_cliOutcome (e : ErrorCode) :
    (s.setErr e).cliOutcome = s.cliOutcome := rfl
@[simp] theorem State.setErr_cliResult (e : ErrorCode) : (s.setErr e).cliResult = s.cliResult := rfl
@[simp] theorem State.setErr_cliDeadline (e : ErrorCode) :
    (s.setErr e).cliDeadline = s.cliDeadline := rfl
@[simp] theorem State.setErr_rxBuf (e : ErrorCode) : (s.setErr e).rxBuf = s.rxBuf := rfl
@[simp] theorem State.setErr_cfgLines (e : ErrorCode) : (s.setErr e).cfgLines = s.cfgLines := rfl
@[simp] theorem State.setErr_cfgIdx (e : ErrorCode) : (s.setErr e).cfgIdx = s.cfgIdx := rfl

/-! ### raise -/

@[simp] theorem State.raise_cfg (e : ErrorCode) : (s.raise e).cfg = s.cfg := rfl
@[simp] theorem State.raise_input (e : ErrorCode) : (s.raise e).input = s.input := rfl
@[simp] theorem State.raise_now (e : ErrorCode) : (s.raise e).now = s.now := rfl
@[simp] theorem State.raise_responses (e : ErrorCode) :
    (s.raise e).responses = s.responses ++ [errResponse e] := rfl
@[simp] theorem State.raise_tx (e : ErrorCode) : (s.raise e).tx = s.tx := rfl
@[simp] theorem State.raise_err (e : ErrorCode) : (s.raise e).err = s.err ||| errorBit e := rfl
@[simp] theorem State.raise_ctrl (e : ErrorCode) : (s.raise e).ctrl = s.ctrl := rfl
@[simp] theorem State.raise_numTx (e : ErrorCode) : (s.raise e).numTx = s.numTx := rfl
@[simp] theorem State.raise_numRx (e : ErrorCode) : (s.raise e).numRx = s.numRx := rfl
@[simp] theorem State.raise_numAdc (e : ErrorCode) : (s.raise e).numAdc = s.numAdc := rfl
@[simp] theorem State.raise_numLoops (e : ErrorCode) : (s.raise e).numLoops = s.numLoops := rfl
@[simp] theorem State.raise_framePeriod (e : ErrorCode) :
    (s.raise e).framePeriod = s.framePeriod := rfl
@[simp] theorem State.raise_cliTimeout (e : ErrorCode) :
    (s.raise e).cliTimeout = s.cliTimeout := rfl
@[simp] theorem State.raise_readTimeout (e : ErrorCode) :
    (s.raise e).readTimeout = s.readTimeout := rfl
@[simp] theorem State.raise_lastSeq (e : ErrorCode) : (s.raise e).lastSeq = s.lastSeq := rfl
@[simp] theorem State.raise_evictTotal (e : ErrorCode) :
    (s.raise e).evictTotal = s.evictTotal := rfl
@[simp] theorem State.raise_outDropTotal (e : ErrorCode) :
    (s.raise e).outDropTotal = s.outDropTotal := rfl
@[simp] theorem State.raise_discardTotal (e : ErrorCode) :
    (s.raise e).discardTotal = s.discardTotal := rfl
@[simp] theorem State.raise_framesOutTotal (e : ErrorCode) :
    (s.raise e).framesOutTotal = s.framesOutTotal := rfl
@[simp] theorem State.raise_pipeState (e : ErrorCode) : (s.raise e).pipeState = s.pipeState := rfl
@[simp] theorem State.raise_stopReason (e : ErrorCode) :
    (s.raise e).stopReason = s.stopReason := rfl
@[simp] theorem State.raise_stopReq (e : ErrorCode) : (s.raise e).stopReq = s.stopReq := rfl
@[simp] theorem State.raise_lastPktTime (e : ErrorCode) :
    (s.raise e).lastPktTime = s.lastPktTime := rfl
@[simp] theorem State.raise_outq (e : ErrorCode) : (s.raise e).outq = s.outq := rfl
@[simp] theorem State.raise_holdq (e : ErrorCode) : (s.raise e).holdq = s.holdq := rfl
@[simp] theorem State.raise_pending (e : ErrorCode) : (s.raise e).pending = s.pending := rfl
@[simp] theorem State.raise_cliState (e : ErrorCode) : (s.raise e).cliState = s.cliState := rfl
@[simp] theorem State.raise_cliJob (e : ErrorCode) : (s.raise e).cliJob = s.cliJob := rfl
@[simp] theorem State.raise_cliOutcome (e : ErrorCode) :
    (s.raise e).cliOutcome = s.cliOutcome := rfl
@[simp] theorem State.raise_cliResult (e : ErrorCode) : (s.raise e).cliResult = s.cliResult := rfl
@[simp] theorem State.raise_cliDeadline (e : ErrorCode) :
    (s.raise e).cliDeadline = s.cliDeadline := rfl
@[simp] theorem State.raise_rxBuf (e : ErrorCode) : (s.raise e).rxBuf = s.rxBuf := rfl
@[simp] theorem State.raise_cfgLines (e : ErrorCode) : (s.raise e).cfgLines = s.cfgLines := rfl
@[simp] theorem State.raise_cfgIdx (e : ErrorCode) : (s.raise e).cfgIdx = s.cfgIdx := rfl

/-! ### emitTx -/

@[simp] theorem State.emitTx_cfg (b : List Byte) : (s.emitTx b).cfg = s.cfg := rfl
@[simp] theorem State.emitTx_input (b : List Byte) : (s.emitTx b).input = s.input := rfl
@[simp] theorem State.emitTx_now (b : List Byte) : (s.emitTx b).now = s.now := rfl
@[simp] theorem State.emitTx_responses (b : List Byte) : (s.emitTx b).responses = s.responses := rfl
@[simp] theorem State.emitTx_tx (b : List Byte) : (s.emitTx b).tx = s.tx ++ b := rfl
@[simp] theorem State.emitTx_err (b : List Byte) : (s.emitTx b).err = s.err := rfl
@[simp] theorem State.emitTx_ctrl (b : List Byte) : (s.emitTx b).ctrl = s.ctrl := rfl
@[simp] theorem State.emitTx_numTx (b : List Byte) : (s.emitTx b).numTx = s.numTx := rfl
@[simp] theorem State.emitTx_numRx (b : List Byte) : (s.emitTx b).numRx = s.numRx := rfl
@[simp] theorem State.emitTx_numAdc (b : List Byte) : (s.emitTx b).numAdc = s.numAdc := rfl
@[simp] theorem State.emitTx_numLoops (b : List Byte) : (s.emitTx b).numLoops = s.numLoops := rfl
@[simp] theorem State.emitTx_framePeriod (b : List Byte) :
    (s.emitTx b).framePeriod = s.framePeriod := rfl
@[simp] theorem State.emitTx_cliTimeout (b : List Byte) :
    (s.emitTx b).cliTimeout = s.cliTimeout := rfl
@[simp] theorem State.emitTx_readTimeout (b : List Byte) :
    (s.emitTx b).readTimeout = s.readTimeout := rfl
@[simp] theorem State.emitTx_lastSeq (b : List Byte) : (s.emitTx b).lastSeq = s.lastSeq := rfl
@[simp] theorem State.emitTx_evictTotal (b : List Byte) :
    (s.emitTx b).evictTotal = s.evictTotal := rfl
@[simp] theorem State.emitTx_outDropTotal (b : List Byte) :
    (s.emitTx b).outDropTotal = s.outDropTotal := rfl
@[simp] theorem State.emitTx_discardTotal (b : List Byte) :
    (s.emitTx b).discardTotal = s.discardTotal := rfl
@[simp] theorem State.emitTx_framesOutTotal (b : List Byte) :
    (s.emitTx b).framesOutTotal = s.framesOutTotal := rfl
@[simp] theorem State.emitTx_pipeState (b : List Byte) : (s.emitTx b).pipeState = s.pipeState := rfl
@[simp] theorem State.emitTx_stopReason (b : List Byte) :
    (s.emitTx b).stopReason = s.stopReason := rfl
@[simp] theorem State.emitTx_stopReq (b : List Byte) : (s.emitTx b).stopReq = s.stopReq := rfl
@[simp] theorem State.emitTx_lastPktTime (b : List Byte) :
    (s.emitTx b).lastPktTime = s.lastPktTime := rfl
@[simp] theorem State.emitTx_outq (b : List Byte) : (s.emitTx b).outq = s.outq := rfl
@[simp] theorem State.emitTx_holdq (b : List Byte) : (s.emitTx b).holdq = s.holdq := rfl
@[simp] theorem State.emitTx_pending (b : List Byte) : (s.emitTx b).pending = s.pending := rfl
@[simp] theorem State.emitTx_cliState (b : List Byte) : (s.emitTx b).cliState = s.cliState := rfl
@[simp] theorem State.emitTx_cliJob (b : List Byte) : (s.emitTx b).cliJob = s.cliJob := rfl
@[simp] theorem State.emitTx_cliOutcome (b : List Byte) :
    (s.emitTx b).cliOutcome = s.cliOutcome := rfl
@[simp] theorem State.emitTx_cliResult (b : List Byte) : (s.emitTx b).cliResult = s.cliResult := rfl
@[simp] theorem State.emitTx_cliDeadline (b : List Byte) :
    (s.emitTx b).cliDeadline = s.cliDeadline := rfl
@[simp] theorem State.emitTx_rxBuf (b : List Byte) : (s.emitTx b).rxBuf = s.rxBuf := rfl
@[simp] theorem State.emitTx_cfgLines (b : List Byte) : (s.emitTx b).cfgLines = s.cfgLines := rfl
@[simp] theorem State.emitTx_cfgIdx (b : List Byte) : (s.emitTx b).cfgIdx = s.cfgIdx := rfl

/-! ### sendLine -/

@[simp] theorem State.sendLine_cfg (l : List Byte) : (s.sendLine l).cfg = s.cfg := rfl
@[simp] theorem State.sendLine_input (l : List Byte) : (s.sendLine l).input = s.input := rfl
@[simp] theorem State.sendLine_now (l : List Byte) : (s.sendLine l).now = s.now := rfl
@[simp] theorem State.sendLine_responses (l : List Byte) :
    (s.sendLine l).responses = s.responses := rfl
@[simp] theorem State.sendLine_tx (l : List Byte) :
    (s.sendLine l).tx = s.tx ++ (l ++ [byteLF]) := rfl
@[simp] theorem State.sendLine_err (l : List Byte) : (s.sendLine l).err = s.err := rfl
@[simp] theorem State.sendLine_ctrl (l : List Byte) : (s.sendLine l).ctrl = s.ctrl := rfl
@[simp] theorem State.sendLine_numTx (l : List Byte) : (s.sendLine l).numTx = s.numTx := rfl
@[simp] theorem State.sendLine_numRx (l : List Byte) : (s.sendLine l).numRx = s.numRx := rfl
@[simp] theorem State.sendLine_numAdc (l : List Byte) : (s.sendLine l).numAdc = s.numAdc := rfl
@[simp] theorem State.sendLine_numLoops (l : List Byte) :
    (s.sendLine l).numLoops = s.numLoops := rfl
@[simp] theorem State.sendLine_framePeriod (l : List Byte) :
    (s.sendLine l).framePeriod = s.framePeriod := rfl
@[simp] theorem State.sendLine_cliTimeout (l : List Byte) :
    (s.sendLine l).cliTimeout = s.cliTimeout := rfl
@[simp] theorem State.sendLine_readTimeout (l : List Byte) :
    (s.sendLine l).readTimeout = s.readTimeout := rfl
@[simp] theorem State.sendLine_lastSeq (l : List Byte) : (s.sendLine l).lastSeq = s.lastSeq := rfl
@[simp] theorem State.sendLine_evictTotal (l : List Byte) :
    (s.sendLine l).evictTotal = s.evictTotal := rfl
@[simp] theorem State.sendLine_outDropTotal (l : List Byte) :
    (s.sendLine l).outDropTotal = s.outDropTotal := rfl
@[simp] theorem State.sendLine_discardTotal (l : List Byte) :
    (s.sendLine l).discardTotal = s.discardTotal := rfl
@[simp] theorem State.sendLine_framesOutTotal (l : List Byte) :
    (s.sendLine l).framesOutTotal = s.framesOutTotal := rfl
@[simp] theorem State.sendLine_pipeState (l : List Byte) :
    (s.sendLine l).pipeState = s.pipeState := rfl
@[simp] theorem State.sendLine_stopReason (l : List Byte) :
    (s.sendLine l).stopReason = s.stopReason := rfl
@[simp] theorem State.sendLine_stopReq (l : List Byte) : (s.sendLine l).stopReq = s.stopReq := rfl
@[simp] theorem State.sendLine_lastPktTime (l : List Byte) :
    (s.sendLine l).lastPktTime = s.lastPktTime := rfl
@[simp] theorem State.sendLine_outq (l : List Byte) : (s.sendLine l).outq = s.outq := rfl
@[simp] theorem State.sendLine_holdq (l : List Byte) : (s.sendLine l).holdq = s.holdq := rfl
@[simp] theorem State.sendLine_pending (l : List Byte) : (s.sendLine l).pending = s.pending := rfl
@[simp] theorem State.sendLine_cliState (l : List Byte) : (s.sendLine l).cliState = .wait := rfl
@[simp] theorem State.sendLine_cliJob (l : List Byte) : (s.sendLine l).cliJob = s.cliJob := rfl
@[simp] theorem State.sendLine_cliOutcome (l : List Byte) : (s.sendLine l).cliOutcome = .none := rfl
@[simp] theorem State.sendLine_cliResult (l : List Byte) :
    (s.sendLine l).cliResult = s.cliResult := rfl
@[simp] theorem State.sendLine_cliDeadline (l : List Byte) :
    (s.sendLine l).cliDeadline = s.now.toNat + s.cliTimeout.toNat := rfl
@[simp] theorem State.sendLine_rxBuf (l : List Byte) : (s.sendLine l).rxBuf = s.rxBuf := rfl
@[simp] theorem State.sendLine_cfgLines (l : List Byte) :
    (s.sendLine l).cfgLines = s.cfgLines := rfl
@[simp] theorem State.sendLine_cfgIdx (l : List Byte) : (s.sendLine l).cfgIdx = s.cfgIdx := rfl

/-! ### beginJob -/

@[simp] theorem State.beginJob_cfg (j : CliJob) : (s.beginJob j).cfg = s.cfg := rfl
@[simp] theorem State.beginJob_input (j : CliJob) : (s.beginJob j).input = s.input := rfl
@[simp] theorem State.beginJob_now (j : CliJob) : (s.beginJob j).now = s.now := rfl
@[simp] theorem State.beginJob_responses (j : CliJob) :
    (s.beginJob j).responses = s.responses := rfl
@[simp] theorem State.beginJob_tx (j : CliJob) : (s.beginJob j).tx = s.tx := rfl
@[simp] theorem State.beginJob_err (j : CliJob) : (s.beginJob j).err = s.err := rfl
@[simp] theorem State.beginJob_ctrl (j : CliJob) : (s.beginJob j).ctrl = s.ctrl := rfl
@[simp] theorem State.beginJob_numTx (j : CliJob) : (s.beginJob j).numTx = s.numTx := rfl
@[simp] theorem State.beginJob_numRx (j : CliJob) : (s.beginJob j).numRx = s.numRx := rfl
@[simp] theorem State.beginJob_numAdc (j : CliJob) : (s.beginJob j).numAdc = s.numAdc := rfl
@[simp] theorem State.beginJob_numLoops (j : CliJob) : (s.beginJob j).numLoops = s.numLoops := rfl
@[simp] theorem State.beginJob_framePeriod (j : CliJob) :
    (s.beginJob j).framePeriod = s.framePeriod := rfl
@[simp] theorem State.beginJob_cliTimeout (j : CliJob) :
    (s.beginJob j).cliTimeout = s.cliTimeout := rfl
@[simp] theorem State.beginJob_readTimeout (j : CliJob) :
    (s.beginJob j).readTimeout = s.readTimeout := rfl
@[simp] theorem State.beginJob_lastSeq (j : CliJob) : (s.beginJob j).lastSeq = s.lastSeq := rfl
@[simp] theorem State.beginJob_evictTotal (j : CliJob) :
    (s.beginJob j).evictTotal = s.evictTotal := rfl
@[simp] theorem State.beginJob_outDropTotal (j : CliJob) :
    (s.beginJob j).outDropTotal = s.outDropTotal := rfl
@[simp] theorem State.beginJob_discardTotal (j : CliJob) :
    (s.beginJob j).discardTotal = s.discardTotal := rfl
@[simp] theorem State.beginJob_framesOutTotal (j : CliJob) :
    (s.beginJob j).framesOutTotal = s.framesOutTotal := rfl
@[simp] theorem State.beginJob_pipeState (j : CliJob) :
    (s.beginJob j).pipeState = s.pipeState := rfl
@[simp] theorem State.beginJob_stopReason (j : CliJob) :
    (s.beginJob j).stopReason = s.stopReason := rfl
@[simp] theorem State.beginJob_stopReq (j : CliJob) : (s.beginJob j).stopReq = s.stopReq := rfl
@[simp] theorem State.beginJob_lastPktTime (j : CliJob) :
    (s.beginJob j).lastPktTime = s.lastPktTime := rfl
@[simp] theorem State.beginJob_outq (j : CliJob) : (s.beginJob j).outq = s.outq := rfl
@[simp] theorem State.beginJob_holdq (j : CliJob) : (s.beginJob j).holdq = s.holdq := rfl
@[simp] theorem State.beginJob_pending (j : CliJob) : (s.beginJob j).pending = s.pending := rfl
@[simp] theorem State.beginJob_cliState (j : CliJob) : (s.beginJob j).cliState = s.cliState := rfl
@[simp] theorem State.beginJob_cliJob (j : CliJob) : (s.beginJob j).cliJob = j := rfl
@[simp] theorem State.beginJob_cliOutcome (j : CliJob) :
    (s.beginJob j).cliOutcome = s.cliOutcome := rfl
@[simp] theorem State.beginJob_cliResult (j : CliJob) : (s.beginJob j).cliResult = .none := rfl
@[simp] theorem State.beginJob_cliDeadline (j : CliJob) :
    (s.beginJob j).cliDeadline = s.cliDeadline := rfl
@[simp] theorem State.beginJob_rxBuf (j : CliJob) : (s.beginJob j).rxBuf = s.rxBuf := rfl
@[simp] theorem State.beginJob_cfgLines (j : CliJob) : (s.beginJob j).cfgLines = s.cfgLines := rfl
@[simp] theorem State.beginJob_cfgIdx (j : CliJob) : (s.beginJob j).cfgIdx = s.cfgIdx := rfl

/-! ### endJob -/

@[simp] theorem State.endJob_cfg (r : CliResult) : (s.endJob r).cfg = s.cfg := rfl
@[simp] theorem State.endJob_input (r : CliResult) : (s.endJob r).input = s.input := rfl
@[simp] theorem State.endJob_now (r : CliResult) : (s.endJob r).now = s.now := rfl
@[simp] theorem State.endJob_responses (r : CliResult) : (s.endJob r).responses = s.responses := rfl
@[simp] theorem State.endJob_tx (r : CliResult) : (s.endJob r).tx = s.tx := rfl
@[simp] theorem State.endJob_err (r : CliResult) : (s.endJob r).err = s.err := rfl
@[simp] theorem State.endJob_ctrl (r : CliResult) : (s.endJob r).ctrl = s.ctrl := rfl
@[simp] theorem State.endJob_numTx (r : CliResult) : (s.endJob r).numTx = s.numTx := rfl
@[simp] theorem State.endJob_numRx (r : CliResult) : (s.endJob r).numRx = s.numRx := rfl
@[simp] theorem State.endJob_numAdc (r : CliResult) : (s.endJob r).numAdc = s.numAdc := rfl
@[simp] theorem State.endJob_numLoops (r : CliResult) : (s.endJob r).numLoops = s.numLoops := rfl
@[simp] theorem State.endJob_framePeriod (r : CliResult) :
    (s.endJob r).framePeriod = s.framePeriod := rfl
@[simp] theorem State.endJob_cliTimeout (r : CliResult) :
    (s.endJob r).cliTimeout = s.cliTimeout := rfl
@[simp] theorem State.endJob_readTimeout (r : CliResult) :
    (s.endJob r).readTimeout = s.readTimeout := rfl
@[simp] theorem State.endJob_lastSeq (r : CliResult) : (s.endJob r).lastSeq = s.lastSeq := rfl
@[simp] theorem State.endJob_evictTotal (r : CliResult) :
    (s.endJob r).evictTotal = s.evictTotal := rfl
@[simp] theorem State.endJob_outDropTotal (r : CliResult) :
    (s.endJob r).outDropTotal = s.outDropTotal := rfl
@[simp] theorem State.endJob_discardTotal (r : CliResult) :
    (s.endJob r).discardTotal = s.discardTotal := rfl
@[simp] theorem State.endJob_framesOutTotal (r : CliResult) :
    (s.endJob r).framesOutTotal = s.framesOutTotal := rfl
@[simp] theorem State.endJob_pipeState (r : CliResult) : (s.endJob r).pipeState = s.pipeState := rfl
@[simp] theorem State.endJob_stopReason (r : CliResult) :
    (s.endJob r).stopReason = s.stopReason := rfl
@[simp] theorem State.endJob_stopReq (r : CliResult) : (s.endJob r).stopReq = s.stopReq := rfl
@[simp] theorem State.endJob_lastPktTime (r : CliResult) :
    (s.endJob r).lastPktTime = s.lastPktTime := rfl
@[simp] theorem State.endJob_outq (r : CliResult) : (s.endJob r).outq = s.outq := rfl
@[simp] theorem State.endJob_holdq (r : CliResult) : (s.endJob r).holdq = s.holdq := rfl
@[simp] theorem State.endJob_pending (r : CliResult) : (s.endJob r).pending = s.pending := rfl
@[simp] theorem State.endJob_cliState (r : CliResult) : (s.endJob r).cliState = .idle := rfl
@[simp] theorem State.endJob_cliJob (r : CliResult) : (s.endJob r).cliJob = s.cliJob := rfl
@[simp] theorem State.endJob_cliOutcome (r : CliResult) :
    (s.endJob r).cliOutcome = s.cliOutcome := rfl
@[simp] theorem State.endJob_cliResult (r : CliResult) : (s.endJob r).cliResult = r := rfl
@[simp] theorem State.endJob_cliDeadline (r : CliResult) :
    (s.endJob r).cliDeadline = s.cliDeadline := rfl
@[simp] theorem State.endJob_rxBuf (r : CliResult) : (s.endJob r).rxBuf = s.rxBuf := rfl
@[simp] theorem State.endJob_cfgLines (r : CliResult) : (s.endJob r).cfgLines = s.cfgLines := rfl
@[simp] theorem State.endJob_cfgIdx (r : CliResult) : (s.endJob r).cfgIdx = s.cfgIdx := rfl

/-! ### closePort -/

@[simp] theorem State.closePort_cfg : (s.closePort).cfg = s.cfg := rfl
@[simp] theorem State.closePort_input : (s.closePort).input = s.input := rfl
@[simp] theorem State.closePort_now : (s.closePort).now = s.now := rfl
@[simp] theorem State.closePort_responses : (s.closePort).responses = s.responses := rfl
@[simp] theorem State.closePort_tx : (s.closePort).tx = s.tx := rfl
@[simp] theorem State.closePort_err : (s.closePort).err = s.err := rfl
@[simp] theorem State.closePort_ctrl : (s.closePort).ctrl = s.ctrl := rfl
@[simp] theorem State.closePort_numTx : (s.closePort).numTx = s.numTx := rfl
@[simp] theorem State.closePort_numRx : (s.closePort).numRx = s.numRx := rfl
@[simp] theorem State.closePort_numAdc : (s.closePort).numAdc = s.numAdc := rfl
@[simp] theorem State.closePort_numLoops : (s.closePort).numLoops = s.numLoops := rfl
@[simp] theorem State.closePort_framePeriod : (s.closePort).framePeriod = s.framePeriod := rfl
@[simp] theorem State.closePort_cliTimeout : (s.closePort).cliTimeout = s.cliTimeout := rfl
@[simp] theorem State.closePort_readTimeout : (s.closePort).readTimeout = s.readTimeout := rfl
@[simp] theorem State.closePort_lastSeq : (s.closePort).lastSeq = s.lastSeq := rfl
@[simp] theorem State.closePort_evictTotal : (s.closePort).evictTotal = s.evictTotal := rfl
@[simp] theorem State.closePort_outDropTotal : (s.closePort).outDropTotal = s.outDropTotal := rfl
@[simp] theorem State.closePort_discardTotal : (s.closePort).discardTotal = s.discardTotal := rfl
@[simp] theorem State.closePort_framesOutTotal :
    (s.closePort).framesOutTotal = s.framesOutTotal := rfl
@[simp] theorem State.closePort_pipeState : (s.closePort).pipeState = s.pipeState := rfl
@[simp] theorem State.closePort_stopReason : (s.closePort).stopReason = s.stopReason := rfl
@[simp] theorem State.closePort_stopReq : (s.closePort).stopReq = s.stopReq := rfl
@[simp] theorem State.closePort_lastPktTime : (s.closePort).lastPktTime = s.lastPktTime := rfl
@[simp] theorem State.closePort_outq : (s.closePort).outq = s.outq := rfl
@[simp] theorem State.closePort_holdq : (s.closePort).holdq = s.holdq := rfl
@[simp] theorem State.closePort_pending : (s.closePort).pending = s.pending := rfl
@[simp] theorem State.closePort_cliState : (s.closePort).cliState = .closed := rfl
@[simp] theorem State.closePort_cliJob : (s.closePort).cliJob = s.cliJob := rfl
@[simp] theorem State.closePort_cliOutcome : (s.closePort).cliOutcome = s.cliOutcome := rfl
@[simp] theorem State.closePort_cliResult : (s.closePort).cliResult = .success := rfl
@[simp] theorem State.closePort_cliDeadline : (s.closePort).cliDeadline = s.cliDeadline := rfl
@[simp] theorem State.closePort_rxBuf : (s.closePort).rxBuf = [] := rfl
@[simp] theorem State.closePort_cfgLines : (s.closePort).cfgLines = s.cfgLines := rfl
@[simp] theorem State.closePort_cfgIdx : (s.closePort).cfgIdx = s.cfgIdx := rfl

/-! ### enqueue -/

@[simp] theorem State.enqueue_cfg (f : OutFrame) : (s.enqueue f).cfg = s.cfg := rfl
@[simp] theorem State.enqueue_input (f : OutFrame) : (s.enqueue f).input = s.input := rfl
@[simp] theorem State.enqueue_now (f : OutFrame) : (s.enqueue f).now = s.now := rfl
@[simp] theorem State.enqueue_responses (f : OutFrame) :
    (s.enqueue f).responses = s.responses := rfl
@[simp] theorem State.enqueue_tx (f : OutFrame) : (s.enqueue f).tx = s.tx := rfl
@[simp] theorem State.enqueue_err (f : OutFrame) : (s.enqueue f).err = s.err := rfl
@[simp] theorem State.enqueue_ctrl (f : OutFrame) : (s.enqueue f).ctrl = s.ctrl := rfl
@[simp] theorem State.enqueue_numTx (f : OutFrame) : (s.enqueue f).numTx = s.numTx := rfl
@[simp] theorem State.enqueue_numRx (f : OutFrame) : (s.enqueue f).numRx = s.numRx := rfl
@[simp] theorem State.enqueue_numAdc (f : OutFrame) : (s.enqueue f).numAdc = s.numAdc := rfl
@[simp] theorem State.enqueue_numLoops (f : OutFrame) : (s.enqueue f).numLoops = s.numLoops := rfl
@[simp] theorem State.enqueue_framePeriod (f : OutFrame) :
    (s.enqueue f).framePeriod = s.framePeriod := rfl
@[simp] theorem State.enqueue_cliTimeout (f : OutFrame) :
    (s.enqueue f).cliTimeout = s.cliTimeout := rfl
@[simp] theorem State.enqueue_readTimeout (f : OutFrame) :
    (s.enqueue f).readTimeout = s.readTimeout := rfl
@[simp] theorem State.enqueue_lastSeq (f : OutFrame) : (s.enqueue f).lastSeq = s.lastSeq := rfl
@[simp] theorem State.enqueue_evictTotal (f : OutFrame) :
    (s.enqueue f).evictTotal = s.evictTotal := rfl
@[simp] theorem State.enqueue_outDropTotal (f : OutFrame) :
    (s.enqueue f).outDropTotal = s.outDropTotal := rfl
@[simp] theorem State.enqueue_discardTotal (f : OutFrame) :
    (s.enqueue f).discardTotal = s.discardTotal := rfl
@[simp] theorem State.enqueue_framesOutTotal (f : OutFrame) :
    (s.enqueue f).framesOutTotal = s.framesOutTotal + 1#32 := rfl
@[simp] theorem State.enqueue_pipeState (f : OutFrame) :
    (s.enqueue f).pipeState = s.pipeState := rfl
@[simp] theorem State.enqueue_stopReason (f : OutFrame) :
    (s.enqueue f).stopReason = s.stopReason := rfl
@[simp] theorem State.enqueue_stopReq (f : OutFrame) : (s.enqueue f).stopReq = s.stopReq := rfl
@[simp] theorem State.enqueue_lastPktTime (f : OutFrame) :
    (s.enqueue f).lastPktTime = s.lastPktTime := rfl
@[simp] theorem State.enqueue_outq (f : OutFrame) : (s.enqueue f).outq = s.outq ++ [f] := rfl
@[simp] theorem State.enqueue_holdq (f : OutFrame) : (s.enqueue f).holdq = s.holdq := rfl
@[simp] theorem State.enqueue_pending (f : OutFrame) : (s.enqueue f).pending = s.pending := rfl
@[simp] theorem State.enqueue_cliState (f : OutFrame) : (s.enqueue f).cliState = s.cliState := rfl
@[simp] theorem State.enqueue_cliJob (f : OutFrame) : (s.enqueue f).cliJob = s.cliJob := rfl
@[simp] theorem State.enqueue_cliOutcome (f : OutFrame) :
    (s.enqueue f).cliOutcome = s.cliOutcome := rfl
@[simp] theorem State.enqueue_cliResult (f : OutFrame) :
    (s.enqueue f).cliResult = s.cliResult := rfl
@[simp] theorem State.enqueue_cliDeadline (f : OutFrame) :
    (s.enqueue f).cliDeadline = s.cliDeadline := rfl
@[simp] theorem State.enqueue_rxBuf (f : OutFrame) : (s.enqueue f).rxBuf = s.rxBuf := rfl
@[simp] theorem State.enqueue_cfgLines (f : OutFrame) : (s.enqueue f).cfgLines = s.cfgLines := rfl
@[simp] theorem State.enqueue_cfgIdx (f : OutFrame) : (s.enqueue f).cfgIdx = s.cfgIdx := rfl

/-! ### blockOn -/

@[simp] theorem State.blockOn_cfg (f : OutFrame) : (s.blockOn f).cfg = s.cfg := rfl
@[simp] theorem State.blockOn_input (f : OutFrame) : (s.blockOn f).input = s.input := rfl
@[simp] theorem State.blockOn_now (f : OutFrame) : (s.blockOn f).now = s.now := rfl
@[simp] theorem State.blockOn_responses (f : OutFrame) :
    (s.blockOn f).responses = s.responses := rfl
@[simp] theorem State.blockOn_tx (f : OutFrame) : (s.blockOn f).tx = s.tx := rfl
@[simp] theorem State.blockOn_err (f : OutFrame) : (s.blockOn f).err = s.err := rfl
@[simp] theorem State.blockOn_ctrl (f : OutFrame) : (s.blockOn f).ctrl = s.ctrl := rfl
@[simp] theorem State.blockOn_numTx (f : OutFrame) : (s.blockOn f).numTx = s.numTx := rfl
@[simp] theorem State.blockOn_numRx (f : OutFrame) : (s.blockOn f).numRx = s.numRx := rfl
@[simp] theorem State.blockOn_numAdc (f : OutFrame) : (s.blockOn f).numAdc = s.numAdc := rfl
@[simp] theorem State.blockOn_numLoops (f : OutFrame) : (s.blockOn f).numLoops = s.numLoops := rfl
@[simp] theorem State.blockOn_framePeriod (f : OutFrame) :
    (s.blockOn f).framePeriod = s.framePeriod := rfl
@[simp] theorem State.blockOn_cliTimeout (f : OutFrame) :
    (s.blockOn f).cliTimeout = s.cliTimeout := rfl
@[simp] theorem State.blockOn_readTimeout (f : OutFrame) :
    (s.blockOn f).readTimeout = s.readTimeout := rfl
@[simp] theorem State.blockOn_lastSeq (f : OutFrame) : (s.blockOn f).lastSeq = s.lastSeq := rfl
@[simp] theorem State.blockOn_evictTotal (f : OutFrame) :
    (s.blockOn f).evictTotal = s.evictTotal := rfl
@[simp] theorem State.blockOn_outDropTotal (f : OutFrame) :
    (s.blockOn f).outDropTotal = s.outDropTotal := rfl
@[simp] theorem State.blockOn_discardTotal (f : OutFrame) :
    (s.blockOn f).discardTotal = s.discardTotal := rfl
@[simp] theorem State.blockOn_framesOutTotal (f : OutFrame) :
    (s.blockOn f).framesOutTotal = s.framesOutTotal := rfl
@[simp] theorem State.blockOn_pipeState (f : OutFrame) :
    (s.blockOn f).pipeState = .publishBlocked := rfl
@[simp] theorem State.blockOn_stopReason (f : OutFrame) :
    (s.blockOn f).stopReason = s.stopReason := rfl
@[simp] theorem State.blockOn_stopReq (f : OutFrame) : (s.blockOn f).stopReq = s.stopReq := rfl
@[simp] theorem State.blockOn_lastPktTime (f : OutFrame) :
    (s.blockOn f).lastPktTime = s.lastPktTime := rfl
@[simp] theorem State.blockOn_outq (f : OutFrame) : (s.blockOn f).outq = s.outq := rfl
@[simp] theorem State.blockOn_holdq (f : OutFrame) : (s.blockOn f).holdq = [f] := rfl
@[simp] theorem State.blockOn_pending (f : OutFrame) : (s.blockOn f).pending = s.pending := rfl
@[simp] theorem State.blockOn_cliState (f : OutFrame) : (s.blockOn f).cliState = s.cliState := rfl
@[simp] theorem State.blockOn_cliJob (f : OutFrame) : (s.blockOn f).cliJob = s.cliJob := rfl
@[simp] theorem State.blockOn_cliOutcome (f : OutFrame) :
    (s.blockOn f).cliOutcome = s.cliOutcome := rfl
@[simp] theorem State.blockOn_cliResult (f : OutFrame) :
    (s.blockOn f).cliResult = s.cliResult := rfl
@[simp] theorem State.blockOn_cliDeadline (f : OutFrame) :
    (s.blockOn f).cliDeadline = s.cliDeadline := rfl
@[simp] theorem State.blockOn_rxBuf (f : OutFrame) : (s.blockOn f).rxBuf = s.rxBuf := rfl
@[simp] theorem State.blockOn_cfgLines (f : OutFrame) : (s.blockOn f).cfgLines = s.cfgLines := rfl
@[simp] theorem State.blockOn_cfgIdx (f : OutFrame) : (s.blockOn f).cfgIdx = s.cfgIdx := rfl

/-! ### dropHead -/

@[simp] theorem State.dropHead_cfg : (s.dropHead).cfg = s.cfg := rfl
@[simp] theorem State.dropHead_input : (s.dropHead).input = s.input := rfl
@[simp] theorem State.dropHead_now : (s.dropHead).now = s.now := rfl
@[simp] theorem State.dropHead_responses : (s.dropHead).responses = s.responses := rfl
@[simp] theorem State.dropHead_tx : (s.dropHead).tx = s.tx := rfl
@[simp] theorem State.dropHead_err : (s.dropHead).err = s.err ||| errorBit .outputDrop := rfl
@[simp] theorem State.dropHead_ctrl : (s.dropHead).ctrl = s.ctrl := rfl
@[simp] theorem State.dropHead_numTx : (s.dropHead).numTx = s.numTx := rfl
@[simp] theorem State.dropHead_numRx : (s.dropHead).numRx = s.numRx := rfl
@[simp] theorem State.dropHead_numAdc : (s.dropHead).numAdc = s.numAdc := rfl
@[simp] theorem State.dropHead_numLoops : (s.dropHead).numLoops = s.numLoops := rfl
@[simp] theorem State.dropHead_framePeriod : (s.dropHead).framePeriod = s.framePeriod := rfl
@[simp] theorem State.dropHead_cliTimeout : (s.dropHead).cliTimeout = s.cliTimeout := rfl
@[simp] theorem State.dropHead_readTimeout : (s.dropHead).readTimeout = s.readTimeout := rfl
@[simp] theorem State.dropHead_lastSeq : (s.dropHead).lastSeq = s.lastSeq := rfl
@[simp] theorem State.dropHead_evictTotal : (s.dropHead).evictTotal = s.evictTotal := rfl
@[simp] theorem State.dropHead_outDropTotal :
    (s.dropHead).outDropTotal = s.outDropTotal + 1#32 := rfl
@[simp] theorem State.dropHead_discardTotal : (s.dropHead).discardTotal = s.discardTotal := rfl
@[simp] theorem State.dropHead_framesOutTotal :
    (s.dropHead).framesOutTotal = s.framesOutTotal := rfl
@[simp] theorem State.dropHead_pipeState : (s.dropHead).pipeState = s.pipeState := rfl
@[simp] theorem State.dropHead_stopReason : (s.dropHead).stopReason = s.stopReason := rfl
@[simp] theorem State.dropHead_stopReq : (s.dropHead).stopReq = s.stopReq := rfl
@[simp] theorem State.dropHead_lastPktTime : (s.dropHead).lastPktTime = s.lastPktTime := rfl
@[simp] theorem State.dropHead_outq : (s.dropHead).outq = s.outq.drop 1 := rfl
@[simp] theorem State.dropHead_holdq : (s.dropHead).holdq = s.holdq := rfl
@[simp] theorem State.dropHead_pending : (s.dropHead).pending = s.pending := rfl
@[simp] theorem State.dropHead_cliState : (s.dropHead).cliState = s.cliState := rfl
@[simp] theorem State.dropHead_cliJob : (s.dropHead).cliJob = s.cliJob := rfl
@[simp] theorem State.dropHead_cliOutcome : (s.dropHead).cliOutcome = s.cliOutcome := rfl
@[simp] theorem State.dropHead_cliResult : (s.dropHead).cliResult = s.cliResult := rfl
@[simp] theorem State.dropHead_cliDeadline : (s.dropHead).cliDeadline = s.cliDeadline := rfl
@[simp] theorem State.dropHead_rxBuf : (s.dropHead).rxBuf = s.rxBuf := rfl
@[simp] theorem State.dropHead_cfgLines : (s.dropHead).cfgLines = s.cfgLines := rfl
@[simp] theorem State.dropHead_cfgIdx : (s.dropHead).cfgIdx = s.cfgIdx := rfl

/-! ### evictStale -/

@[simp] theorem State.evictStale_cfg (n : Nat) : (s.evictStale n).cfg = s.cfg := rfl
@[simp] theorem State.evictStale_input (n : Nat) : (s.evictStale n).input = s.input := rfl
@[simp] theorem State.evictStale_now (n : Nat) : (s.evictStale n).now = s.now := rfl
@[simp] theorem State.evictStale_responses (n : Nat) :
    (s.evictStale n).responses = s.responses := rfl
@[simp] theorem State.evictStale_tx (n : Nat) : (s.evictStale n).tx = s.tx := rfl
@[simp] theorem State.evictStale_err (n : Nat) : (s.evictStale n).err = s.err := rfl
@[simp] theorem State.evictStale_ctrl (n : Nat) : (s.evictStale n).ctrl = s.ctrl := rfl
@[simp] theorem State.evictStale_numTx (n : Nat) : (s.evictStale n).numTx = s.numTx := rfl
@[simp] theorem State.evictStale_numRx (n : Nat) : (s.evictStale n).numRx = s.numRx := rfl
@[simp] theorem State.evictStale_numAdc (n : Nat) : (s.evictStale n).numAdc = s.numAdc := rfl
@[simp] theorem State.evictStale_numLoops (n : Nat) : (s.evictStale n).numLoops = s.numLoops := rfl
@[simp] theorem State.evictStale_framePeriod (n : Nat) :
    (s.evictStale n).framePeriod = s.framePeriod := rfl
@[simp] theorem State.evictStale_cliTimeout (n : Nat) :
    (s.evictStale n).cliTimeout = s.cliTimeout := rfl
@[simp] theorem State.evictStale_readTimeout (n : Nat) :
    (s.evictStale n).readTimeout = s.readTimeout := rfl
@[simp] theorem State.evictStale_lastSeq (n : Nat) : (s.evictStale n).lastSeq = s.lastSeq := rfl
@[simp] theorem State.evictStale_evictTotal (n : Nat) :
    (s.evictStale n).evictTotal = s.evictTotal + BitVec.ofNat 32 (staleIds s.now n s.pending).length := rfl
@[simp] theorem State.evictStale_outDropTotal (n : Nat) :
    (s.evictStale n).outDropTotal = s.outDropTotal := rfl
@[simp] theorem State.evictStale_discardTotal (n : Nat) :
    (s.evictStale n).discardTotal = s.discardTotal := rfl
@[simp] theorem State.evictStale_framesOutTotal (n : Nat) :
    (s.evictStale n).framesOutTotal = s.framesOutTotal := rfl
@[simp] theorem State.evictStale_pipeState (n : Nat) :
    (s.evictStale n).pipeState = s.pipeState := rfl
@[simp] theorem State.evictStale_stopReason (n : Nat) :
    (s.evictStale n).stopReason = s.stopReason := rfl
@[simp] theorem State.evictStale_stopReq (n : Nat) : (s.evictStale n).stopReq = s.stopReq := rfl
@[simp] theorem State.evictStale_lastPktTime (n : Nat) :
    (s.evictStale n).lastPktTime = s.lastPktTime := rfl
@[simp] theorem State.evictStale_outq (n : Nat) : (s.evictStale n).outq = s.outq := rfl
@[simp] theorem State.evictStale_holdq (n : Nat) : (s.evictStale n).holdq = s.holdq := rfl
@[simp] theorem State.evictStale_pending (n : Nat) :
    (s.evictStale n).pending = s.pending.filter (fun q => !isStale s.now n q.2) := rfl
@[simp] theorem State.evictStale_cliState (n : Nat) : (s.evictStale n).cliState = s.cliState := rfl
@[simp] theorem State.evictStale_cliJob (n : Nat) : (s.evictStale n).cliJob = s.cliJob := rfl
@[simp] theorem State.evictStale_cliOutcome (n : Nat) :
    (s.evictStale n).cliOutcome = s.cliOutcome := rfl
@[simp] theorem State.evictStale_cliResult (n : Nat) :
    (s.evictStale n).cliResult = s.cliResult := rfl
@[simp] theorem State.evictStale_cliDeadline (n : Nat) :
    (s.evictStale n).cliDeadline = s.cliDeadline := rfl
@[simp] theorem State.evictStale_rxBuf (n : Nat) : (s.evictStale n).rxBuf = s.rxBuf := rfl
@[simp] theorem State.evictStale_cfgLines (n : Nat) : (s.evictStale n).cfgLines = s.cfgLines := rfl
@[simp] theorem State.evictStale_cfgIdx (n : Nat) : (s.evictStale n).cfgIdx = s.cfgIdx := rfl

/-! ### noteDatagram -/

@[simp] theorem State.noteDatagram_cfg (d : List Byte) : (s.noteDatagram d).cfg = s.cfg := rfl
@[simp] theorem State.noteDatagram_input (d : List Byte) : (s.noteDatagram d).input = s.input := rfl
@[simp] theorem State.noteDatagram_now (d : List Byte) : (s.noteDatagram d).now = s.now := rfl
@[simp] theorem State.noteDatagram_responses (d : List Byte) :
    (s.noteDatagram d).responses = s.responses := rfl
@[simp] theorem State.noteDatagram_tx (d : List Byte) : (s.noteDatagram d).tx = s.tx := rfl
@[simp] theorem State.noteDatagram_err (d : List Byte) : (s.noteDatagram d).err = s.err := rfl
@[simp] theorem State.noteDatagram_ctrl (d : List Byte) : (s.noteDatagram d).ctrl = s.ctrl := rfl
@[simp] theorem State.noteDatagram_numTx (d : List Byte) : (s.noteDatagram d).numTx = s.numTx := rfl
@[simp] theorem State.noteDatagram_numRx (d : List Byte) : (s.noteDatagram d).numRx = s.numRx := rfl
@[simp] theorem State.noteDatagram_numAdc (d : List Byte) :
    (s.noteDatagram d).numAdc = s.numAdc := rfl
@[simp] theorem State.noteDatagram_numLoops (d : List Byte) :
    (s.noteDatagram d).numLoops = s.numLoops := rfl
@[simp] theorem State.noteDatagram_framePeriod (d : List Byte) :
    (s.noteDatagram d).framePeriod = s.framePeriod := rfl
@[simp] theorem State.noteDatagram_cliTimeout (d : List Byte) :
    (s.noteDatagram d).cliTimeout = s.cliTimeout := rfl
@[simp] theorem State.noteDatagram_readTimeout (d : List Byte) :
    (s.noteDatagram d).readTimeout = s.readTimeout := rfl
@[simp] theorem State.noteDatagram_lastSeq (d : List Byte) :
    (s.noteDatagram d).lastSeq = BitVec.ofInt 32 (packetSeq d) := rfl
@[simp] theorem State.noteDatagram_evictTotal (d : List Byte) :
    (s.noteDatagram d).evictTotal = s.evictTotal := rfl
@[simp] theorem State.noteDatagram_outDropTotal (d : List Byte) :
    (s.noteDatagram d).outDropTotal = s.outDropTotal := rfl
@[simp] theorem State.noteDatagram_discardTotal (d : List Byte) :
    (s.noteDatagram d).discardTotal = s.discardTotal := rfl
@[simp] theorem State.noteDatagram_framesOutTotal (d : List Byte) :
    (s.noteDatagram d).framesOutTotal = s.framesOutTotal := rfl
@[simp] theorem State.noteDatagram_pipeState (d : List Byte) :
    (s.noteDatagram d).pipeState = s.pipeState := rfl
@[simp] theorem State.noteDatagram_stopReason (d : List Byte) :
    (s.noteDatagram d).stopReason = s.stopReason := rfl
@[simp] theorem State.noteDatagram_stopReq (d : List Byte) :
    (s.noteDatagram d).stopReq = s.stopReq := rfl
@[simp] theorem State.noteDatagram_lastPktTime (d : List Byte) :
    (s.noteDatagram d).lastPktTime = s.now := rfl
@[simp] theorem State.noteDatagram_outq (d : List Byte) : (s.noteDatagram d).outq = s.outq := rfl
@[simp] theorem State.noteDatagram_holdq (d : List Byte) : (s.noteDatagram d).holdq = s.holdq := rfl
@[simp] theorem State.noteDatagram_pending (d : List Byte) :
    (s.noteDatagram d).pending = s.pending := rfl
@[simp] theorem State.noteDatagram_cliState (d : List Byte) :
    (s.noteDatagram d).cliState = s.cliState := rfl
@[simp] theorem State.noteDatagram_cliJob (d : List Byte) :
    (s.noteDatagram d).cliJob = s.cliJob := rfl
@[simp] theorem State.noteDatagram_cliOutcome (d : List Byte) :
    (s.noteDatagram d).cliOutcome = s.cliOutcome := rfl
@[simp] theorem State.noteDatagram_cliResult (d : List Byte) :
    (s.noteDatagram d).cliResult = s.cliResult := rfl
@[simp] theorem State.noteDatagram_cliDeadline (d : List Byte) :
    (s.noteDatagram d).cliDeadline = s.cliDeadline := rfl
@[simp] theorem State.noteDatagram_rxBuf (d : List Byte) : (s.noteDatagram d).rxBuf = s.rxBuf := rfl
@[simp] theorem State.noteDatagram_cfgLines (d : List Byte) :
    (s.noteDatagram d).cfgLines = s.cfgLines := rfl
@[simp] theorem State.noteDatagram_cfgIdx (d : List Byte) :
    (s.noteDatagram d).cfgIdx = s.cfgIdx := rfl

/-! ### stopMalformed -/

@[simp] theorem State.stopMalformed_cfg : (s.stopMalformed).cfg = s.cfg := rfl
@[simp] theorem State.stopMalformed_input : (s.stopMalformed).input = s.input := rfl
@[simp] theorem State.stopMalformed_now : (s.stopMalformed).now = s.now := rfl
@[simp] theorem State.stopMalformed_responses : (s.stopMalformed).responses = s.responses := rfl
@[simp] theorem State.stopMalformed_tx : (s.stopMalformed).tx = s.tx := rfl
@[simp] theorem State.stopMalformed_err : (s.stopMalformed).err = s.err := rfl
@[simp] theorem State.stopMalformed_ctrl : (s.stopMalformed).ctrl = s.ctrl := rfl
@[simp] theorem State.stopMalformed_numTx : (s.stopMalformed).numTx = s.numTx := rfl
@[simp] theorem State.stopMalformed_numRx : (s.stopMalformed).numRx = s.numRx := rfl
@[simp] theorem State.stopMalformed_numAdc : (s.stopMalformed).numAdc = s.numAdc := rfl
@[simp] theorem State.stopMalformed_numLoops : (s.stopMalformed).numLoops = s.numLoops := rfl
@[simp] theorem State.stopMalformed_framePeriod :
    (s.stopMalformed).framePeriod = s.framePeriod := rfl
@[simp] theorem State.stopMalformed_cliTimeout : (s.stopMalformed).cliTimeout = s.cliTimeout := rfl
@[simp] theorem State.stopMalformed_readTimeout :
    (s.stopMalformed).readTimeout = s.readTimeout := rfl
@[simp] theorem State.stopMalformed_lastSeq : (s.stopMalformed).lastSeq = s.lastSeq := rfl
@[simp] theorem State.stopMalformed_evictTotal : (s.stopMalformed).evictTotal = s.evictTotal := rfl
@[simp] theorem State.stopMalformed_outDropTotal :
    (s.stopMalformed).outDropTotal = s.outDropTotal := rfl
@[simp] theorem State.stopMalformed_discardTotal :
    (s.stopMalformed).discardTotal = s.discardTotal := rfl
@[simp] theorem State.stopMalformed_framesOutTotal :
    (s.stopMalformed).framesOutTotal = s.framesOutTotal := rfl
@[simp] theorem State.stopMalformed_pipeState : (s.stopMalformed).pipeState = .stopped := rfl
@[simp] theorem State.stopMalformed_stopReason :
    (s.stopMalformed).stopReason = .malformedPacket := rfl
@[simp] theorem State.stopMalformed_stopReq : (s.stopMalformed).stopReq = false := rfl
@[simp] theorem State.stopMalformed_lastPktTime :
    (s.stopMalformed).lastPktTime = s.lastPktTime := rfl
@[simp] theorem State.stopMalformed_outq : (s.stopMalformed).outq = s.outq := rfl
@[simp] theorem State.stopMalformed_holdq : (s.stopMalformed).holdq = s.holdq := rfl
@[simp] theorem State.stopMalformed_pending : (s.stopMalformed).pending = s.pending := rfl
@[simp] theorem State.stopMalformed_cliState : (s.stopMalformed).cliState = s.cliState := rfl
@[simp] theorem State.stopMalformed_cliJob : (s.stopMalformed).cliJob = s.cliJob := rfl
@[simp] theorem State.stopMalformed_cliOutcome : (s.stopMalformed).cliOutcome = s.cliOutcome := rfl
@[simp] theorem State.stopMalformed_cliResult : (s.stopMalformed).cliResult = s.cliResult := rfl
@[simp] theorem State.stopMalformed_cliDeadline :
    (s.stopMalformed).cliDeadline = s.cliDeadline := rfl
@[simp] theorem State.stopMalformed_rxBuf : (s.stopMalformed).rxBuf = s.rxBuf := rfl
@[simp] theorem State.stopMalformed_cfgLines : (s.stopMalformed).cfgLines = s.cfgLines := rfl
@[simp] theorem State.stopMalformed_cfgIdx : (s.stopMalformed).cfgIdx = s.cfgIdx := rfl

/-! ### launch -/

@[simp] theorem State.launch_cfg : (s.launch).cfg = s.cfg := rfl
@[simp] theorem State.launch_input : (s.launch).input = s.input := rfl
@[simp] theorem State.launch_now : (s.launch).now = s.now := rfl
@[simp] theorem State.launch_responses : (s.launch).responses = s.responses := rfl
@[simp] theorem State.launch_tx : (s.launch).tx = s.tx := rfl
@[simp] theorem State.launch_err : (s.launch).err = s.err := rfl
@[simp] theorem State.launch_ctrl : (s.launch).ctrl = s.ctrl := rfl
@[simp] theorem State.launch_numTx : (s.launch).numTx = s.numTx := rfl
@[simp] theorem State.launch_numRx : (s.launch).numRx = s.numRx := rfl
@[simp] theorem State.launch_numAdc : (s.launch).numAdc = s.numAdc := rfl
@[simp] theorem State.launch_numLoops : (s.launch).numLoops = s.numLoops := rfl
@[simp] theorem State.launch_framePeriod : (s.launch).framePeriod = s.framePeriod := rfl
@[simp] theorem State.launch_cliTimeout : (s.launch).cliTimeout = s.cliTimeout := rfl
@[simp] theorem State.launch_readTimeout : (s.launch).readTimeout = s.readTimeout := rfl
@[simp] theorem State.launch_lastSeq : (s.launch).lastSeq = s.lastSeq := rfl
@[simp] theorem State.launch_evictTotal : (s.launch).evictTotal = s.evictTotal := rfl
@[simp] theorem State.launch_outDropTotal : (s.launch).outDropTotal = s.outDropTotal := rfl
@[simp] theorem State.launch_discardTotal : (s.launch).discardTotal = s.discardTotal := rfl
@[simp] theorem State.launch_framesOutTotal : (s.launch).framesOutTotal = s.framesOutTotal := rfl
@[simp] theorem State.launch_pipeState : (s.launch).pipeState = .running := rfl
@[simp] theorem State.launch_stopReason : (s.launch).stopReason = .none := rfl
@[simp] theorem State.launch_stopReq : (s.launch).stopReq = false := rfl
@[simp] theorem State.launch_lastPktTime : (s.launch).lastPktTime = s.now := rfl
@[simp] theorem State.launch_outq : (s.launch).outq = s.outq := rfl
@[simp] theorem State.launch_holdq : (s.launch).holdq = s.holdq := rfl
@[simp] theorem State.launch_pending : (s.launch).pending = s.pending := rfl
@[simp] theorem State.launch_cliState : (s.launch).cliState = s.cliState := rfl
@[simp] theorem State.launch_cliJob : (s.launch).cliJob = s.cliJob := rfl
@[simp] theorem State.launch_cliOutcome : (s.launch).cliOutcome = s.cliOutcome := rfl
@[simp] theorem State.launch_cliResult : (s.launch).cliResult = s.cliResult := rfl
@[simp] theorem State.launch_cliDeadline : (s.launch).cliDeadline = s.cliDeadline := rfl
@[simp] theorem State.launch_rxBuf : (s.launch).rxBuf = s.rxBuf := rfl
@[simp] theorem State.launch_cfgLines : (s.launch).cfgLines = s.cfgLines := rfl
@[simp] theorem State.launch_cfgIdx : (s.launch).cfgIdx = s.cfgIdx := rfl

end Sys2Proof.Machine
end

