-- ==== Sys2Proof/Laws/Store.lean ====
section
/-! SUPPORT. The pending store as a map: reads after writes, the canonical form that every operation keeps,
and what a chunk writes. -/

namespace Sys2Proof.Machine

/-- The canonical form as a pairwise property. -/
theorem storeWf_iff (p : Store) : storeWf p = true ↔ p.Pairwise (fun a b => a.1 < b.1) := by
  induction p with
  | nil => simp [storeWf]
  | cons h t ih => obtain ⟨k, e⟩ := h; simp [storeWf, ih]

@[simp] theorem storeFind_nil (fid : Nat) : storeFind [] fid = none := rfl

/-- Reading a frame id gives an entry that the store lists under it. -/
theorem mem_of_storeFind {p : Store} {fid : Nat} {e : Entry} (h : storeFind p fid = some e) :
    (fid, e) ∈ p := by
  induction p with
  | nil => simp at h
  | cons q t ih =>
    obtain ⟨k, f⟩ := q
    by_cases hk : k = fid
    · simp [storeFind, hk] at h; simp [hk, h]
    · simp [storeFind, hk] at h; simp [ih h]

theorem storeFind_eq_none_iff (p : Store) (fid : Nat) :
    storeFind p fid = none ↔ ∀ q ∈ p, q.1 ≠ fid := by
  induction p with
  | nil => simp
  | cons q t ih =>
    obtain ⟨k, f⟩ := q
    by_cases hk : k = fid <;> simp [storeFind, hk, ih]

/-- Reading the frame id just written gives the entry written. -/
@[simp] theorem storeFind_storeSet_same (p : Store) (fid : Nat) (e : Entry) :
    storeFind (storeSet p fid e) fid = some e := by
  induction p with
  | nil => simp [storeSet, storeFind]
  | cons q t ih =>
    obtain ⟨k, f⟩ := q
    unfold storeSet
    split
    · simp [storeFind]
    · split
      · simp [storeFind]
      · next h1 h2 => simp [storeFind, Ne.symm h2, ih]

/-- A write leaves every other frame id alone. -/
theorem storeFind_storeSet_other (p : Store) {fid other : Nat} (e : Entry) (h : other ≠ fid) :
    storeFind (storeSet p fid e) other = storeFind p other := by
  induction p with
  | nil => simp [storeSet, storeFind, Ne.symm h]
  | cons q t ih =>
    obtain ⟨k, f⟩ := q
    unfold storeSet
    split
    · simp [storeFind, Ne.symm h]
    · split
      · next h1 h2 => subst h2; simp [storeFind, Ne.symm h]
      · simp only [storeFind, ih]

@[simp] theorem storeFind_storeErase_same (p : Store) (fid : Nat) :
    storeFind (storeErase p fid) fid = none := by
  rw [storeFind_eq_none_iff]; intro q hq; simp [storeErase] at hq; exact hq.2

theorem storeFind_storeErase_other (p : Store) {fid other : Nat} (h : other ≠ fid) :
    storeFind (storeErase p fid) other = storeFind p other := by
  induction p with
  | nil => rfl
  | cons q t ih =>
    obtain ⟨k, f⟩ := q
    simp only [storeErase, ne_eq, decide_not] at *
    by_cases hk : k = fid
    · simp [hk, storeFind, Ne.symm h, ih]
    · simp [hk, storeFind, ih]

/-- What the store lists after a write: the entry written, or an old entry of another frame id. -/
theorem mem_storeSet {p : Store} {fid : Nat} {e : Entry} {q : Nat × Entry}
    (h : q ∈ storeSet p fid e) : q = (fid, e) ∨ q ∈ p := by
  induction p with
  | nil => simpa [storeSet] using h
  | cons r t ih =>
    obtain ⟨k, f⟩ := r
    unfold storeSet at h
    split at h
    · simpa using h
    · split at h
      · rcases List.mem_cons.1 h with h | h
        · exact .inl h
        · exact .inr (List.mem_cons_of_mem _ h)
      · rcases List.mem_cons.1 h with h | h
        · exact .inr (h ▸ List.mem_cons_self)
        · exact (ih h).imp id (List.mem_cons_of_mem _)

theorem mem_storeErase {p : Store} {fid : Nat} {q : Nat × Entry} :
    q ∈ storeErase p fid ↔ q ∈ p ∧ q.1 ≠ fid := by simp [storeErase]

/-! ### The canonical form is kept -/

/-- A write keeps the canonical form. -/
theorem storeSet_wf {p : Store} (fid : Nat) (e : Entry) (h : storeWf p = true) :
    storeWf (storeSet p fid e) = true := by
  induction p with
  | nil => simp [storeSet, storeWf]
  | cons q t ih =>
    obtain ⟨k, f⟩ := q
    simp only [storeWf, Bool.and_eq_true, List.all_eq_true, decide_eq_true_eq] at h
    unfold storeSet
    split
    · next hlt =>
      simp only [storeWf, Bool.and_eq_true, List.all_eq_true, decide_eq_true_eq]
      refine ⟨fun r hr => ?_, h⟩
      rcases List.mem_cons.1 hr with rfl | hr
      · exact hlt
      · exact Nat.lt_trans hlt (h.1 r hr)
    · split
      · next heq => subst heq; simpa [storeWf] using h
      · next hlt hne =>
        simp only [storeWf, Bool.and_eq_true, List.all_eq_true, decide_eq_true_eq]
        refine ⟨fun r hr => ?_, ih h.2⟩
        rcases mem_storeSet hr with rfl | hr
        · show k < fid; omega
        · exact h.1 r hr

/-- Removing entries keeps the canonical form. -/
theorem storeWf_filter {p : Store} (f : Nat × Entry → Bool) (h : storeWf p = true) :
    storeWf (p.filter f) = true := by
  rw [storeWf_iff] at *; exact h.filter f

theorem storeErase_wf {p : Store} (fid : Nat) (h : storeWf p = true) :
    storeWf (storeErase p fid) = true := storeWf_filter _ h

/-- One step of the walk: nothing but the overflow mark changes, or the frame of the chunk is completed
and removed, or its entry is written. -/
theorem placeChunk_cases (cap : Option Nat) (S : Nat) (now : Time) (w : Walk) (c : Chunk) :
    (chunkEntry cap S now w.pending c.fid = none ∧
      placeChunk cap S now w c = { w with overflow := true }) ∨
    (∃ e, chunkEntry cap S now w.pending c.fid = some e ∧
      (e.writeChunk c.pos c.words).complete = true ∧
      placeChunk cap S now w c =
        { w with
          pending := storeErase w.pending c.fid
          completed := w.completed ++ [(c.fid, (e.writeChunk c.pos c.words).buf)] }) ∨
    (∃ e, chunkEntry cap S now w.pending c.fid = some e ∧
      (e.writeChunk c.pos c.words).complete = false ∧
      placeChunk cap S now w c =
        { w with pending := storeSet w.pending c.fid (e.writeChunk c.pos c.words) }) := by
  unfold placeChunk
  cases h : chunkEntry cap S now w.pending c.fid with
  | none => exact .inl ⟨rfl, rfl⟩
  | some e =>
    cases h' : (e.writeChunk c.pos c.words).complete with
    | true => exact .inr (.inl ⟨e, rfl, h', by simp [h']⟩)
    | false => exact .inr (.inr ⟨e, rfl, h', by simp [h']⟩)

theorem placeChunk_wf {cap : Option Nat} {S : Nat} {now : Time} {w : Walk} (c : Chunk)
    (h : storeWf w.pending = true) : storeWf (placeChunk cap S now w c).pending = true := by
  rcases placeChunk_cases cap S now w c with ⟨-, h'⟩ | ⟨e, -, -, h'⟩ | ⟨e, -, -, h'⟩ <;> rw [h']
  · exact h
  · exact storeErase_wf _ h
  · exact storeSet_wf _ _ h

/-- The walk of a datagram keeps the canonical form. -/
theorem walkPayload_wf {p : Store} (cap : Option Nat) (S : Nat) (now : Time) (soff : Nat)
    (payload : List Word) (h : storeWf p = true) :
    storeWf (walkPayload cap S now p soff payload).pending = true := by
  unfold walkPayload
  generalize splitChunks payload.length S soff payload = cs
  have : ∀ (w : Walk), storeWf w.pending = true →
      storeWf (cs.foldl (placeChunk cap S now) w).pending = true := by
    induction cs with
    | nil => exact fun w hw => hw
    | cons c cs ih => exact fun w hw => ih _ (placeChunk_wf c hw)
  exact this _ h

/-- An eviction pass keeps the canonical form. -/
theorem State.evictStale_wf {s : State} (timeout : Nat) (h : storeWf s.pending = true) :
    storeWf (s.evictStale timeout).pending = true := storeWf_filter _ h

/-- The evicted frame ids of a canonical store rise strictly. -/
theorem staleIds_sorted {p : Store} (now : Time) (timeout : Nat) (h : storeWf p = true) :
    (staleIds now timeout p).Pairwise (· < ·) := by
  rw [storeWf_iff] at h
  exact List.pairwise_map.2 (h.filter _)

/-! ### Entries and chunks -/

@[simp] theorem Entry.writeChunk_firstSeen (e : Entry) (pos : Nat) (ws : List Word) :
    (e.writeChunk pos ws).firstSeen = e.firstSeen := rfl

/-- A chunk inside the frame keeps the number of positions. -/
theorem Entry.writeChunk_length (e : Entry) (pos : Nat) (ws : List Word)
    (h : pos + ws.length ≤ e.slots.length) :
    (e.writeChunk pos ws).slots.length = e.slots.length := by
  simp [Entry.writeChunk]; omega

/-- What a chunk writes: its own positions take its words, every other position is as before. -/
theorem Entry.writeChunk_getElem? (e : Entry) (pos : Nat) (ws : List Word) (q : Nat)
    (h : pos + ws.length ≤ e.slots.length) :
    (e.writeChunk pos ws).slots[q]? =
      if pos ≤ q ∧ q < pos + ws.length then some ws[q - pos]? else e.slots[q]? := by
  simp only [Entry.writeChunk]
  rcases Nat.lt_or_ge q pos with h1 | h1
  · rw [if_neg (by omega), List.append_assoc, List.getElem?_append_left (by simp; omega),
      List.getElem?_take_of_lt h1]
  · rcases Nat.lt_or_ge q (pos + ws.length) with h2 | h2
    · rw [if_pos ⟨h1, h2⟩, List.getElem?_append_left (by simp; omega),
        List.getElem?_append_right (by simp; omega)]
      simp only [List.length_take, List.getElem?_map]
      rw [show min pos e.slots.length = pos by omega, List.getElem?_eq_getElem (by omega)]
      rfl
    · rw [if_neg (by omega), List.getElem?_append_right (by simp; omega), List.getElem?_drop]
      congr 1
      simp
      omega

@[simp] theorem freshEntry_length (S : Nat) (now : Time) :
    (freshEntry S now).slots.length = S := by simp [freshEntry]

@[simp] theorem freshEntry_firstSeen (S : Nat) (now : Time) :
    (freshEntry S now).firstSeen = now := rfl

/-- Where a chunk's entry comes from: the store, or fresh with room for it. -/
theorem chunkEntry_some {cap : Option Nat} {S : Nat} {now : Time} {p : Store} {fid : Nat} {e : Entry}
    (h : chunkEntry cap S now p fid = some e) :
    storeFind p fid = some e ∨
      (storeFind p fid = none ∧ cap ≠ some p.length ∧ e = freshEntry S now) := by
  unfold chunkEntry at h
  split at h
  · next e' he => exact .inl (he.trans h)
  · next he =>
    split at h
    · cases h
    · next hc => exact .inr ⟨he, hc, (Option.some.inj h).symm⟩

end Sys2Proof.Machine
end

