-- ==== Sys2Proof/Laws/Ops.lean ====
section
/-! SUPPORT. Once for each shared operation, everything it can do. -/

namespace Sys2Proof.Machine

/-! ### The CLI FSM -/

/-- The gate of the sending operations: one case per `cli_state`. -/
theorem State.whenIdle_cases (s go : State) :
    (s.cliState = .closed ∧ s.whenIdle go = s.raise .portClosed) ∨
    (s.cliState = .wait ∧ s.whenIdle go = s.raise .cliBusy) ∨
    (s.cliState = .idle ∧ s.whenIdle go = go) := by
  unfold State.whenIdle
  cases h : s.cliState <;> simp

/-- The step of a CONFIG job: the next line is sent, the last one was acknowledged, or a line failed. -/
theorem State.configStep_cases (s : State) (o : CliOutcome) :
    (∃ l, o = .acknowledged ∧ s.cfgLines[s.cfgIdx + 1]? = some l ∧
      s.configStep o = State.sendLine { s with cfgIdx := s.cfgIdx + 1 } l.bytes) ∨
    (o = .acknowledged ∧ s.cfgLines[s.cfgIdx + 1]? = none ∧
      s.configStep o = State.endJob { s with cfgIdx := s.cfgIdx + 1 } .success) ∨
    (o ≠ .acknowledged ∧ s.configStep o = (s.endJob .fail).setErr .configRejected) := by
  unfold State.configStep
  by_cases ho : o = .acknowledged
  · cases h : s.cfgLines[s.cfgIdx + 1]? with
    | none => exact .inr (.inl ⟨ho, rfl, by simp [ho]⟩)
    | some l => exact .inl ⟨l, ho, rfl, by simp [ho]⟩
  · exact .inr (.inr ⟨ho, by simp [ho]⟩)

/-- The end of a WAIT, by job. -/
theorem State.finishWait_cases (s : State) (o : CliOutcome) :
    ((s.cliJob = .send ∨ s.cliJob = .start ∨ s.cliJob = .stop) ∧
      s.finishWait o =
        State.endJob { s with cliOutcome := o } (if o = .acknowledged then .success else .fail)) ∨
    (s.cliJob = .config ∧ s.finishWait o = State.configStep { s with cliOutcome := o } o) ∨
    (s.cliJob = .close ∧ s.finishWait o = State.closePort { s with cliOutcome := o }) ∨
    (s.cliJob = .none ∧ s.finishWait o = { s with cliOutcome := o }) := by
  unfold State.finishWait
  cases h : s.cliJob <;> simp

/-- What the end of a WAIT leaves alone: everything but the CLI state, the transmit port, `rx_buf` and
ERR; and of ERR it clears nothing. -/
structure SameButCli (s t : State) : Prop where
  cfg : t.cfg = s.cfg
  input : t.input = s.input
  now : t.now = s.now
  responses : t.responses = s.responses
  ctrl : t.ctrl = s.ctrl
  numTx : t.numTx = s.numTx
  numRx : t.numRx = s.numRx
  numAdc : t.numAdc = s.numAdc
  numLoops : t.numLoops = s.numLoops
  framePeriod : t.framePeriod = s.framePeriod
  cliTimeout : t.cliTimeout = s.cliTimeout
  readTimeout : t.readTimeout = s.readTimeout
  lastSeq : t.lastSeq = s.lastSeq
  evictTotal : t.evictTotal = s.evictTotal
  outDropTotal : t.outDropTotal = s.outDropTotal
  discardTotal : t.discardTotal = s.discardTotal
  framesOutTotal : t.framesOutTotal = s.framesOutTotal
  pipeState : t.pipeState = s.pipeState
  stopReason : t.stopReason = s.stopReason
  stopReq : t.stopReq = s.stopReq
  lastPktTime : t.lastPktTime = s.lastPktTime
  outq : t.outq = s.outq
  holdq : t.holdq = s.holdq
  pending : t.pending = s.pending
  cfgLines : t.cfgLines = s.cfgLines
  err : t.err = s.err ∨ t.err = s.err ||| errorBit .configRejected
  tx : ∃ b, t.tx = s.tx ++ b

theorem SameButCli.refl (s : State) : SameButCli s s :=
  ⟨rfl, rfl, rfl, rfl, rfl, rfl, rfl, rfl, rfl, rfl, rfl, rfl, rfl, rfl, rfl, rfl, rfl, rfl, rfl, rfl,
    rfl, rfl, rfl, rfl, rfl, .inl rfl, [], by simp⟩

theorem State.finishWait_same (s : State) (o : CliOutcome) : SameButCli s (s.finishWait o) := by
  rcases s.finishWait_cases o with ⟨-, h⟩ | ⟨-, h⟩ | ⟨-, h⟩ | ⟨-, h⟩ <;> rw [h]
  · exact { SameButCli.refl s with }
  · rcases State.configStep_cases { s with cliOutcome := o } o with
      ⟨l, -, -, h'⟩ | ⟨-, -, h'⟩ | ⟨-, h'⟩ <;> rw [h']
    · exact { SameButCli.refl s with tx := ⟨l.bytes ++ [byteLF], rfl⟩ }
    · exact { SameButCli.refl s with }
    · exact { SameButCli.refl s with err := .inr rfl }
  · exact { SameButCli.refl s with }
  · exact { SameButCli.refl s with }

/-- The CLI time-out check: it fires on a waiting command past its deadline, and does nothing else. -/
theorem State.cliTimeoutCheck_cases (s : State) :
    (s.cliState = .wait ∧ s.cliDeadline < s.now.toNat ∧
      s.cliTimeoutCheck = s.finishWait .timedOut) ∨
    (¬(s.cliState = .wait ∧ s.cliDeadline < s.now.toNat) ∧ s.cliTimeoutCheck = s) := by
  unfold State.cliTimeoutCheck
  split
  · next h => exact .inl ⟨h.1, h.2, rfl⟩
  · next h => exact .inr ⟨h, rfl⟩

theorem State.cliTimeoutCheck_same (s : State) : SameButCli s s.cliTimeoutCheck := by
  rcases s.cliTimeoutCheck_cases with ⟨-, -, h⟩ | ⟨-, h⟩ <;> rw [h]
  · exact s.finishWait_same _
  · exact SameButCli.refl s

/-- The data-read time-out check: it stops a running pipeline that has waited too long. -/
theorem State.readTimeoutCheck_cases (s : State) :
    (s.pipeState = .running ∧ s.lastPktTime.toNat + s.readTimeout.toNat < s.now.toNat ∧
      s.readTimeoutCheck =
        State.setErr { s with pipeState := .stopped, stopReason := .protocolTimeout }
          .protocolTimeout) ∨
    (¬(s.pipeState = .running ∧ s.lastPktTime.toNat + s.readTimeout.toNat < s.now.toNat) ∧
      s.readTimeoutCheck = s) := by
  unfold State.readTimeoutCheck
  split
  · next h => exact .inl ⟨h.1, h.2, rfl⟩
  · next h => exact .inr ⟨h, rfl⟩

/-! ### The output channel -/

/-- A frame that is published is held behind others, enters the channel, displaces its oldest frame, or
blocks the pipeline. -/
theorem State.publish_cases (s : State) (f : OutFrame) :
    (s.pipeState = .publishBlocked ∧ s.publish f = { s with holdq := s.holdq ++ [f] }) ∨
    (s.pipeState ≠ .publishBlocked ∧ s.outq.length < s.cfg.outDepth ∧ s.publish f = s.enqueue f) ∨
    (s.pipeState ≠ .publishBlocked ∧ s.cfg.outDepth ≤ s.outq.length ∧ s.dropOldest = true ∧
      s.publish f = s.dropHead.enqueue f) ∨
    (s.pipeState ≠ .publishBlocked ∧ s.cfg.outDepth ≤ s.outq.length ∧ s.dropOldest = false ∧
      s.publish f = s.blockOn f) := by
  unfold State.publish
  split
  · next h => exact .inl ⟨h, rfl⟩
  · next h =>
    split
    · next h1 => exact .inr (.inl ⟨h, h1, rfl⟩)
    · next h1 =>
      cases h2 : s.dropOldest with
      | true => exact .inr (.inr (.inl ⟨h, Nat.le_of_not_lt h1, rfl, by simp⟩))
      | false => exact .inr (.inr (.inr ⟨h, Nat.le_of_not_lt h1, rfl, by simp⟩))

/-- An emitted frame is lost when it cannot be decoded, and published otherwise. -/
theorem State.pipelineOut_cases (s : State) (f : Nat × List Word) :
    (s.samplesPerFrame % 4 ≠ 0 ∧ s.pipelineOut f = s.setErr .invalidBlockLength) ∨
    (s.samplesPerFrame % 4 = 0 ∧ s.pipelineOut f = s.publish ⟨f.1, s.decodeFrame f.2⟩) := by
  unfold State.pipelineOut
  split
  · next h => exact .inl ⟨h, rfl⟩
  · next h => exact .inr ⟨Decidable.not_not.1 h, rfl⟩

/-- The draining loop in closed form: as many held frames enter the channel as it has room for. -/
theorem State.drainLoop_eq (n : Nat) (s : State) (h : s.holdq.length ≤ n) :
    State.drainLoop n s =
      let k := min s.holdq.length (s.cfg.outDepth - s.outq.length)
      { s with
        outq := s.outq ++ s.holdq.take k
        holdq := s.holdq.drop k
        framesOutTotal := s.framesOutTotal + BitVec.ofNat 32 k } := by
  induction n generalizing s with
  | zero =>
    have h0 : s.holdq = [] := List.eq_nil_of_length_eq_zero (by omega)
    simp [State.drainLoop, h0]
    rw [← h0]
  | succ n ih =>
    unfold State.drainLoop
    cases hq : s.holdq with
    | nil => simp; rw [← hq]
    | cons f rest =>
      rw [hq] at h
      simp only [List.length_cons] at h
      dsimp only
      split
      · next hroom =>
        rw [ih]
        · have hk : min (rest.length + 1) (s.cfg.outDepth - s.outq.length) =
              min rest.length (s.cfg.outDepth - (s.outq.length + 1)) + 1 := by omega
          simp only [State.enqueue, List.length_append, List.length_cons, List.length_nil,
            Nat.zero_add, List.append_assoc, BitVec.add_assoc, hk, List.take_succ_cons,
            List.drop_succ_cons, List.cons_append, List.nil_append]
          rw [BitVec.ofNat_add, BitVec.add_comm (1#32)]
        · simp; omega
      · next hroom =>
        have hk : min (f :: rest).length (s.cfg.outDepth - s.outq.length) = 0 := by omega
        simp only [hk, List.take_zero, List.drop_zero, List.append_nil]
        rw [← hq]; simp

/-- The end of a drain: frames are still held, or the pipeline stops as requested, or it runs again. -/
theorem State.resumeLoop_cases (s : State) :
    (s.holdq ≠ [] ∧ s.resumeLoop = s) ∨
    (s.holdq = [] ∧ s.stopReq = true ∧ s.resumeLoop =
      { s with pipeState := .stopped, stopReason := .stopRequested, stopReq := false }) ∨
    (s.holdq = [] ∧ s.stopReq = false ∧ s.resumeLoop =
      { s with pipeState := .running, lastPktTime := s.now }) := by
  unfold State.resumeLoop
  by_cases h : s.holdq = []
  · cases h2 : s.stopReq with
    | true => exact .inr (.inl ⟨h, rfl, by simp [h]⟩)
    | false => exact .inr (.inr ⟨h, rfl, by simp [h]⟩)
  · exact .inl ⟨h, by simp [h]⟩

/-- What decode and publish leave alone: everything but the channel, its totals, ERR and a pipeline that
may come to wait; and of ERR they clear nothing. -/
structure SameButChannel (s t : State) : Prop where
  cfg : t.cfg = s.cfg
  input : t.input = s.input
  now : t.now = s.now
  responses : t.responses = s.responses
  tx : t.tx = s.tx
  ctrl : t.ctrl = s.ctrl
  numTx : t.numTx = s.numTx
  numRx : t.numRx = s.numRx
  numAdc : t.numAdc = s.numAdc
  numLoops : t.numLoops = s.numLoops
  framePeriod : t.framePeriod = s.framePeriod
  cliTimeout : t.cliTimeout = s.cliTimeout
  readTimeout : t.readTimeout = s.readTimeout
  lastSeq : t.lastSeq = s.lastSeq
  evictTotal : t.evictTotal = s.evictTotal
  discardTotal : t.discardTotal = s.discardTotal
  stopReason : t.stopReason = s.stopReason
  stopReq : t.stopReq = s.stopReq
  lastPktTime : t.lastPktTime = s.lastPktTime
  pending : t.pending = s.pending
  cliState : t.cliState = s.cliState
  cliJob : t.cliJob = s.cliJob
  cliOutcome : t.cliOutcome = s.cliOutcome
  cliResult : t.cliResult = s.cliResult
  cliDeadline : t.cliDeadline = s.cliDeadline
  rxBuf : t.rxBuf = s.rxBuf
  cfgLines : t.cfgLines = s.cfgLines
  cfgIdx : t.cfgIdx = s.cfgIdx
  pipeState : t.pipeState = s.pipeState ∨ t.pipeState = .publishBlocked
  err : ∃ m, t.err = s.err ||| m

theorem SameButChannel.refl (s : State) : SameButChannel s s :=
  ⟨rfl, rfl, rfl, rfl, rfl, rfl, rfl, rfl, rfl, rfl, rfl, rfl, rfl, rfl, rfl, rfl, rfl, rfl, rfl, rfl,
    rfl, rfl, rfl, rfl, rfl, rfl, rfl, rfl, .inl rfl, 0#32, by simp⟩

theorem SameButChannel.trans {s t u : State} (h : SameButChannel s t) (g : SameButChannel t u) :
    SameButChannel s u where
  cfg := g.cfg.trans h.cfg
  input := g.input.trans h.input
  now := g.now.trans h.now
  responses := g.responses.trans h.responses
  tx := g.tx.trans h.tx
  ctrl := g.ctrl.trans h.ctrl
  numTx := g.numTx.trans h.numTx
  numRx := g.numRx.trans h.numRx
  numAdc := g.numAdc.trans h.numAdc
  numLoops := g.numLoops.trans h.numLoops
  framePeriod := g.framePeriod.trans h.framePeriod
  cliTimeout := g.cliTimeout.trans h.cliTimeout
  readTimeout := g.readTimeout.trans h.readTimeout
  lastSeq := g.lastSeq.trans h.lastSeq
  evictTotal := g.evictTotal.trans h.evictTotal
  discardTotal := g.discardTotal.trans h.discardTotal
  stopReason := g.stopReason.trans h.stopReason
  stopReq := g.stopReq.trans h.stopReq
  lastPktTime := g.lastPktTime.trans h.lastPktTime
  pending := g.pending.trans h.pending
  cliState := g.cliState.trans h.cliState
  cliJob := g.cliJob.trans h.cliJob
  cliOutcome := g.cliOutcome.trans h.cliOutcome
  cliResult := g.cliResult.trans h.cliResult
  cliDeadline := g.cliDeadline.trans h.cliDeadline
  rxBuf := g.rxBuf.trans h.rxBuf
  cfgLines := g.cfgLines.trans h.cfgLines
  cfgIdx := g.cfgIdx.trans h.cfgIdx
  pipeState := by rcases g.pipeState with e | e <;> rcases h.pipeState with f | f <;> simp [e, f]
  err := by
    obtain ⟨m, hm⟩ := h.err
    obtain ⟨n, hn⟩ := g.err
    exact ⟨m ||| n, by rw [hn, hm, BitVec.or_assoc]⟩

theorem State.publish_same (s : State) (f : OutFrame) : SameButChannel s (s.publish f) := by
  rcases s.publish_cases f with ⟨-, h⟩ | ⟨-, -, h⟩ | ⟨-, -, -, h⟩ | ⟨-, -, -, h⟩ <;> rw [h]
  · exact { SameButChannel.refl s with }
  · exact { SameButChannel.refl s with }
  · exact { SameButChannel.refl s with err := ⟨errorBit .outputDrop, rfl⟩ }
  · exact { SameButChannel.refl s with pipeState := .inr rfl }

theorem State.pipelineOut_same (s : State) (f : Nat × List Word) :
    SameButChannel s (s.pipelineOut f) := by
  rcases s.pipelineOut_cases f with ⟨-, h⟩ | ⟨-, h⟩ <;> rw [h]
  · exact { SameButChannel.refl s with err := ⟨errorBit .invalidBlockLength, rfl⟩ }
  · exact s.publish_same _

/-- The frames of one datagram are decoded and published with nothing else touched. -/
theorem State.pipelineOut_foldl_same (fs : List (Nat × List Word)) (s : State) :
    SameButChannel s (fs.foldl State.pipelineOut s) := by
  induction fs generalizing s with
  | nil => exact SameButChannel.refl s
  | cons f fs ih => exact (s.pipelineOut_same f).trans (ih _)

/-- A property of states that every decode-and-publish keeps is kept by those of a whole datagram. -/
theorem State.pipelineOut_foldl_keeps {P : State → Prop} (h : ∀ s f, P s → P (s.pipelineOut f))
    (fs : List (Nat × List Word)) {s : State} (hs : P s) : P (fs.foldl State.pipelineOut s) := by
  induction fs generalizing s with
  | nil => exact hs
  | cons f fs ih => exact ih (h s f hs)

/-! ### The walk's effect on the state -/

/-- After a walk: the store is the walk's, and PENDING_OVERFLOW is set if a chunk was dropped. -/
theorem State.afterWalk_cases (s : State) (w : Walk) :
    (w.overflow = true ∧
      s.afterWalk w = State.setErr { s with pending := w.pending } .pendingOverflow) ∨
    (w.overflow = false ∧ s.afterWalk w = { s with pending := w.pending }) := by
  unfold State.afterWalk
  cases h : w.overflow
  · exact .inr ⟨rfl, by simp⟩
  · exact .inl ⟨rfl, by simp⟩

/-- The policy's count: nothing under COMPL_ALL, else DISCARD_TOTAL grows. -/
theorem State.countDiscards_cases (s : State) (completed : List (Nat × List Word)) :
    (s.complAll = true ∧ s.countDiscards completed = s) ∨
    (s.complAll = false ∧ s.countDiscards completed =
      { s with discardTotal := s.discardTotal + BitVec.ofNat 32 (completed.length - 1) }) := by
  unfold State.countDiscards
  cases h : s.complAll
  · exact .inr ⟨rfl, by simp⟩
  · exact .inl ⟨rfl, by simp⟩

/-! ### Registers -/

/-- REG_WR touches the register file only. -/
theorem State.writeReg_ports (s : State) (r : Reg) (v : U32) :
    (s.writeReg r v).cfg = s.cfg ∧ (s.writeReg r v).input = s.input ∧
    (s.writeReg r v).now = s.now ∧ (s.writeReg r v).responses = s.responses ∧
    (s.writeReg r v).tx = s.tx := by
  cases r <;> exact ⟨rfl, rfl, rfl, rfl, rfl⟩

/-! ### Operations from end to end -/

/-- Every operation completes: `exec` always answers a next state. -/
theorem exec_next (i : Instr) (s : State) : ∃ t, exec i s = .next t := by
  cases i
  case pktIn d =>
    simp only [exec, execPktIn]
    split <;> first | exact ⟨_, rfl⟩ | (split <;> exact ⟨_, rfl⟩)
  case regRd => simp only [exec, execRegRd]; split <;> exact ⟨_, rfl⟩
  case regWr =>
    simp only [exec, execRegWr]
    split
    · exact ⟨_, rfl⟩
    · split
      · exact ⟨_, rfl⟩
      · split <;> exact ⟨_, rfl⟩
  case pipeStart =>
    simp only [exec, execPipeStart]
    split <;> first | exact ⟨_, rfl⟩ | (split <;> exact ⟨_, rfl⟩)
  case framePop => simp only [exec, execFramePop]; split <;> exact ⟨_, rfl⟩
  case unswizzle =>
    simp only [exec, execUnswizzle]
    split
    · exact ⟨_, rfl⟩
    · split <;> exact ⟨_, rfl⟩
  case reshape =>
    simp only [exec, execReshape]
    split
    · exact ⟨_, rfl⟩
    · split
      · exact ⟨_, rfl⟩
      · split <;> exact ⟨_, rfl⟩
  case signconv =>
    simp only [exec, execSignconv]
    split
    · exact ⟨_, rfl⟩
    · split <;> exact ⟨_, rfl⟩
  case decodeFrame =>
    simp only [exec, execDecodeFrame]
    split
    · exact ⟨_, rfl⟩
    · split
      · exact ⟨_, rfl⟩
      · split
        · exact ⟨_, rfl⟩
        · split <;> exact ⟨_, rfl⟩
  case cliClose => simp only [exec, execCliClose]; split <;> exact ⟨_, rfl⟩
  case cliRxByte =>
    simp only [exec, execCliRxByte]
    split
    · exact ⟨_, rfl⟩
    · split
      · exact ⟨_, rfl⟩
      · split <;> exact ⟨_, rfl⟩
  all_goals exact ⟨_, rfl⟩

/-- Everything a step can do when it answers a next state: nothing is presented, a reset, a command word
that is rejected, or a decoded operation. -/
theorem step_next_cases {s t : State} (h : step s = .next t) :
    (s.input = [] ∧ t = s) ∨
    (∃ rest, s.input = .reset :: rest ∧ t = s.takeReset rest) ∨
    (∃ o rest e, s.input = .op o :: rest ∧ s.now.toNat ≤ o.now.toNat ∧
      decode o.cmd o.arg = .error e ∧ t = (s.accept rest o.now).rejectCommand e) ∨
    (∃ o rest i, s.input = .op o :: rest ∧ s.now.toNat ≤ o.now.toNat ∧
      decode o.cmd o.arg = .ok i ∧ exec i (s.accept rest o.now) = .next t) := by
  unfold step at h
  split at h
  · next hi => exact .inl ⟨hi, by cases h; rfl⟩
  · next rest hi => exact .inr (.inl ⟨rest, hi, by cases h; rfl⟩)
  · next o rest hi =>
    unfold runOperation at h
    split at h
    · cases h
    · next hn =>
      split at h
      · next e he => exact .inr (.inr (.inl ⟨o, rest, e, hi, Nat.le_of_not_lt hn, he, by cases h; rfl⟩))
      · next i he => exact .inr (.inr (.inr ⟨o, rest, i, hi, Nat.le_of_not_lt hn, he, h⟩))

end Sys2Proof.Machine
end

