-- ==== Sys2Proof/Laws/PerInstr.lean ====
section
/-! SUPPORT. Statements made per operation of the opcode map: the shape of an operation's encoding. -/

namespace Sys2Proof.Laws

/-- What an operation presents is well formed: the reserved bits of its command word are 0, its OP value is
assigned, its REG field is 0 unless the operation has one, and its argument has the operation's kind
(30_encoding.md R81, R82, R85). -/
def EncodedShape.Statement (i : Instr) : Prop :=
  ∀ now : Time, (present i now).wellFormed = true

/-- Each bit of a command word: OP in [4:0], REG in [15:8], 0 elsewhere. -/
theorem commandWord_getLsbD (op : BitVec 5) (reg : BitVec 8) (i : Nat) :
    (commandWord op reg).getLsbD i =
      if i < 8 then op.getLsbD i else reg.getLsbD (i - 8) := by
  simp only [commandWord, BitVec.getLsbD_or, BitVec.getLsbD_shiftLeft, BitVec.getLsbD_setWidth]
  by_cases h : i < 8
  · simp [h, show i < 32 by omega]
  · have h1 : op.getLsbD i = false := BitVec.getLsbD_of_ge _ _ (by omega)
    have h2 : 32 ≤ i → reg.getLsbD (i - 8) = false := fun g => BitVec.getLsbD_of_ge _ _ (by omega)
    by_cases g : i < 32
    · simp [h, g, h1, show i - 8 < 32 by omega]
    · simp [h, g, h1, h2 (by omega)]

/-- The fields of a command word read back. -/
theorem commandWord_fields (op : BitVec 5) (reg : BitVec 8) :
    (commandWord op reg).extractLsb' 0 5 = op ∧ (commandWord op reg).extractLsb' 8 8 = reg ∧
      (commandWord op reg).extractLsb' 16 16 = 0#16 ∧ (commandWord op reg).extractLsb' 5 3 = 0#3 := by
  refine ⟨?_, ?_, ?_, ?_⟩ <;>
    refine BitVec.eq_of_getLsbD_eq fun i hi => ?_ <;>
    rw [BitVec.getLsbD_extractLsb', commandWord_getLsbD]
  · simp [hi, show i < 8 by omega]
  · simp [hi]
  · simpa [hi, show ¬16 + i < 8 by omega] using BitVec.getLsbD_of_ge reg (16 + i - 8) (by omega)
  · simp [hi, show 5 + i < 8 by omega]

/-- The checks of a presented operation, on the fields its command word is built from. -/
theorem wellFormed_commandWord (op : BitVec 5) (reg : BitVec 8) (a : Arg) (now : Time) :
    Operation.wellFormed ⟨commandWord op reg, a, now⟩ =
      ((opRow op).isSome && ((opRow op).any (fun r => r.hasReg) || reg == 0#8) &&
        (opRow op).any (fun r => r.arg == a.kind)) := by
  obtain ⟨h1, h2, h3, h4⟩ := commandWord_fields op reg
  simp [Operation.wellFormed, Operation.reservedClear, Operation.opAssigned, Operation.regAllowed,
    Operation.argMatches, Operation.opField, Operation.regField, h1, h2, h3, h4]

theorem EncodedShape.nop : EncodedShape.Statement .nop := fun now =>
  wellFormed_commandWord 0x00#5 0#8 .none now

theorem EncodedShape.regRd (reg : BitVec 8) : EncodedShape.Statement (.regRd reg) := fun now =>
  wellFormed_commandWord 0x01#5 reg .none now

theorem EncodedShape.regWr (reg : BitVec 8) (v : U32) : EncodedShape.Statement (.regWr reg v) := fun now =>
  wellFormed_commandWord 0x02#5 reg (.u32 v) now

theorem EncodedShape.tick : EncodedShape.Statement .tick := fun now =>
  wellFormed_commandWord 0x03#5 0#8 .none now

theorem EncodedShape.pipeStart : EncodedShape.Statement .pipeStart := fun now =>
  wellFormed_commandWord 0x04#5 0#8 .none now

theorem EncodedShape.pipeStop : EncodedShape.Statement .pipeStop := fun now =>
  wellFormed_commandWord 0x05#5 0#8 .none now

theorem EncodedShape.pktIn (d : List Byte) : EncodedShape.Statement (.pktIn d) := fun now =>
  wellFormed_commandWord 0x06#5 0#8 (.bytes d) now

theorem EncodedShape.evict (timeout : U32) : EncodedShape.Statement (.evict timeout) := fun now =>
  wellFormed_commandWord 0x07#5 0#8 (.u32 timeout) now

theorem EncodedShape.framePop : EncodedShape.Statement .framePop := fun now =>
  wellFormed_commandWord 0x08#5 0#8 .none now

theorem EncodedShape.unswizzle (w : List Word) : EncodedShape.Statement (.unswizzle w) := fun now =>
  wellFormed_commandWord 0x09#5 0#8 (.words w) now

theorem EncodedShape.reshape (w : List Word) : EncodedShape.Statement (.reshape w) := fun now =>
  wellFormed_commandWord 0x0A#5 0#8 (.words w) now

theorem EncodedShape.signconv (w : List Word) : EncodedShape.Statement (.signconv w) := fun now =>
  wellFormed_commandWord 0x0B#5 0#8 (.words w) now

theorem EncodedShape.decodeFrame (w : List Word) : EncodedShape.Statement (.decodeFrame w) := fun now =>
  wellFormed_commandWord 0x0C#5 0#8 (.words w) now

theorem EncodedShape.cliSend (line : List Byte) : EncodedShape.Statement (.cliSend line) := fun now =>
  wellFormed_commandWord 0x0D#5 0#8 (.bytes line) now

theorem EncodedShape.cliSendConfig (text : List Byte) : EncodedShape.Statement (.cliSendConfig text) := fun now =>
  wellFormed_commandWord 0x0E#5 0#8 (.bytes text) now

theorem EncodedShape.cliStart : EncodedShape.Statement .cliStart := fun now =>
  wellFormed_commandWord 0x0F#5 0#8 .none now

theorem EncodedShape.cliStop : EncodedShape.Statement .cliStop := fun now =>
  wellFormed_commandWord 0x10#5 0#8 .none now

theorem EncodedShape.cliClose : EncodedShape.Statement .cliClose := fun now =>
  wellFormed_commandWord 0x11#5 0#8 .none now

theorem EncodedShape.cliRxByte (b : Byte) : EncodedShape.Statement (.cliRxByte b) := fun now =>
  wellFormed_commandWord 0x12#5 0#8 (.u8 b) now

end Sys2Proof.Laws
end

