-- ==== Sys2Proof/Tests/Slice0.lean ====
section
/-! SUPPORT. Small tests and the witnesses of the statements' hypotheses. The expected results are those of
spec/95_test_vectors.md (the vector is named) or of a rule's own example. -/

open Sys2Proof Sys2Proof.Machine

namespace Sys2Proof.Tests

/-! ### Small states -/

/-- Small parameters: one place in the channel, two pending entries. -/
def params : Config := ⟨1000, some 2, 16, 1, 24, 40⟩

/-- After reset, with the geometry L = 1, T = 1, R = 1, A = 4 (S = 4). -/
def configured : State := { State.resetWith params with numTx := 1, numRx := 1, numAdc := 4, numLoops := 1 }

def running : State := { configured with pipeState := .running }

def stopped : State := { configured with pipeState := .stopped, stopReason := .stopRequested }

/-- One frame in the full channel, one held behind it. -/
def blocked : State :=
  { configured with
    pipeState := .publishBlocked
    outq := [⟨0, [0#16, 1#16, 2#16, 3#16]⟩]
    holdq := [⟨1, [4#16, 5#16, 6#16, 7#16]⟩] }

/-- A command of job `j` in flight, to be answered by tick 2000. -/
def waiting (j : CliJob) : State :=
  { configured with cliState := .wait, cliJob := j, cliDeadline := 2000 }

/-- A CONFIG job in flight on the first of two lines. -/
def sending : State := { waiting .config with cfgLines := [⟨1, [0x61#8]⟩, ⟨4, [0x62#8]⟩] }

def closed : State := { configured with cliState := .closed, cliJob := .close, cliResult := .success }

/-- Two entries, first seen at 10 and 50 (EV-1). -/
def withPending : State :=
  { running with
    now := 100#64
    pending := [(3, ⟨[some 0#16, none, none, none], 10#64⟩), (4, ⟨[none, none, none, some 9#16], 50#64⟩)] }

/-- The operation `i` presented at tick `now`. -/
def State.presenting (s : State) (i : Instr) (now : Nat) : State :=
  { s with input := [.op (present i (BitVec.ofNat 64 now))] }

/-- The next state of an outcome. -/
def nextOf (o : Host.Outcome State Fault Refusal) : Option State :=
  match o with
  | .next t => some t
  | _ => none

/-- The last response of an outcome. -/
def answerOf (o : Host.Outcome State Fault Refusal) : Option Response :=
  (nextOf o).bind fun t => t.responses.getLast?

/-- `text` as ASCII bytes. -/
def ascii (text : String) : List Byte := text.toList.map fun c => BitVec.ofNat 8 c.toNat

/-- A datagram with a byte offset below 256 and given payload bytes. -/
def datagram (offset : Nat) (payload : List Byte) : List Byte :=
  [1#8, 0#8, 0#8, 0#8, 0#8, 0#8, 0#8, 0#8, 0#8, BitVec.ofNat 8 offset] ++ payload

/-- The Done and Error lines as `rx_buf` holds them. -/
def lineDone : List Byte := ascii "OK Done"

def lineError : List Byte := ascii "Error Done"

/-! ### Well-formedness smoke: one ill-formed operation for each check -/

/-- 95 D-3, D-4: bits 16 and 5. -/
theorem test_wf_refuses_reserved_bits :
    Operation.wellFormed ⟨0x00010000#32, .none, 0#64⟩ = false ∧
    Operation.reservedClear ⟨0x00000020#32, .none, 0#64⟩ = false := by decide

/-- 95 D-1, D-2: OP 0x13 and 0x1F. -/
theorem test_wf_refuses_reserved_op :
    Operation.opAssigned ⟨0x00000013#32, .none, 0#64⟩ = false ∧
    Operation.wellFormed ⟨0x0000001F#32, .none, 0#64⟩ = false := by decide

/-- 95 D-5, D-6: a REG field on NOP and on TICK. -/
theorem test_wf_refuses_stray_reg :
    Operation.regAllowed ⟨0x00000100#32, .none, 0#64⟩ = false ∧
    Operation.wellFormed ⟨0x00000103#32, .none, 0#64⟩ = false := by decide

/-- 95 D-9, D-10: REG_RD with a U32, PKT_IN without its BYTES. -/
theorem test_wf_refuses_wrong_argument :
    Operation.argMatches ⟨0x00000001#32, .u32 5#32, 0#64⟩ = false ∧
    Operation.wellFormed ⟨0x00000006#32, .none, 0#64⟩ = false := by decide

theorem test_wf_accepts : Operation.wellFormed ⟨0x00001301#32, .none, 0#64⟩ = true := by decide

/-! ### Decoding: a word of every operation, written out bit by bit from 30_encoding.md R81 and R85 -/

theorem test_decode_nop : decode 0b00000000000000000000000000000000#32 .none = .ok .nop := rfl
theorem test_decode_regRd :
    decode 0b00000000000000000000101100000001#32 .none = .ok (.regRd 0x0B#8) := rfl
theorem test_decode_regWr :
    decode 0b00000000000000001111111100000010#32 (.u32 1#32) = .ok (.regWr 0xFF#8 1#32) := rfl
theorem test_decode_tick : decode 0b00000000000000000000000000000011#32 .none = .ok .tick := rfl
theorem test_decode_pipeStart :
    decode 0b00000000000000000000000000000100#32 .none = .ok .pipeStart := rfl
theorem test_decode_pipeStop :
    decode 0b00000000000000000000000000000101#32 .none = .ok .pipeStop := rfl
theorem test_decode_pktIn :
    decode 0b00000000000000000000000000000110#32 (.bytes [7#8]) = .ok (.pktIn [7#8]) := rfl
theorem test_decode_evict :
    decode 0b00000000000000000000000000000111#32 (.u32 60#32) = .ok (.evict 60#32) := rfl
theorem test_decode_framePop :
    decode 0b00000000000000000000000000001000#32 .none = .ok .framePop := rfl
theorem test_decode_unswizzle :
    decode 0b00000000000000000000000000001001#32 (.words [7#16]) = .ok (.unswizzle [7#16]) := rfl
theorem test_decode_reshape :
    decode 0b00000000000000000000000000001010#32 (.words [7#16]) = .ok (.reshape [7#16]) := rfl
theorem test_decode_signconv :
    decode 0b00000000000000000000000000001011#32 (.words [7#16]) = .ok (.signconv [7#16]) := rfl
theorem test_decode_decodeFrame :
    decode 0b00000000000000000000000000001100#32 (.words [7#16]) = .ok (.decodeFrame [7#16]) := rfl
theorem test_decode_cliSend :
    decode 0b00000000000000000000000000001101#32 (.bytes [7#8]) = .ok (.cliSend [7#8]) := rfl
theorem test_decode_cliSendConfig :
    decode 0b00000000000000000000000000001110#32 (.bytes [7#8]) = .ok (.cliSendConfig [7#8]) := rfl
theorem test_decode_cliStart :
    decode 0b00000000000000000000000000001111#32 .none = .ok .cliStart := rfl
theorem test_decode_cliStop :
    decode 0b00000000000000000000000000010000#32 .none = .ok .cliStop := rfl
theorem test_decode_cliClose :
    decode 0b00000000000000000000000000010001#32 .none = .ok .cliClose := rfl
theorem test_decode_cliRxByte :
    decode 0b00000000000000000000000000010010#32 (.u8 7#8) = .ok (.cliRxByte 7#8) := rfl

/-- 95 D-1, D-5, D-9 and bit 31, each rejected by name. -/
theorem test_decode_rejects :
    decode 0x00000013#32 .none = .error .reservedOp ∧
    decode 0x00000100#32 .none = .error .strayReg ∧
    decode 0x00000001#32 (.u32 5#32) = .error .wrongArgument ∧
    decode 0x80000000#32 .none = .error .reservedBits := ⟨rfl, rfl, rfl, rfl⟩

/-- 30_encoding.md R85: `(i << 8) | 0x02`; 30_encoding.md R98: REG_WR NUM_TX, 1 is 0x00000402. -/
theorem test_encode_regWr : encode (.regWr 0x04#8 1#32) = (0x00000402#32, .u32 1#32) := rfl

/-- The table word of every row decodes, and its first step from reset runs. -/
theorem test_table_words_run :
    ((List.range 19).all fun op =>
      (decodeTableWord 32 op).isSome && (nextOf (step (State.reset.withFetchWord 32 op))).isSome) =
        true := by decide

theorem test_table_word_pktIn : decodeTableWord 32 0x06 = some (.pktIn []) := rfl

theorem test_table_word_reserved : decodeTableWord 32 0x13 = none := rfl

/-! ### Control -/

/-- C-13. -/
theorem test_nop : exec .nop configured = .next (configured.respond .none) := rfl

/-- C-4, and SPF of the geometry 1, 1, 1, 4. -/
theorem test_regRd :
    answerOf (exec (.regRd 0x00#8) configured) = some ⟨.ok, 0#8, .u32 0x52444946#32⟩ ∧
    answerOf (exec (.regRd 0x0B#8) configured) = some ⟨.ok, 0#8, .u32 4#32⟩ := by decide

/-- D-7: index 0x14 is reserved. -/
theorem test_regRd_reserved :
    exec (.regRd 0x14#8) configured = .next (configured.raise .illegalCommand) := rfl

/-- C-8, C-9: write one to clear. -/
theorem test_regWr_err :
    (nextOf (exec (.regWr 0x02#8 0x200#32) { configured with err := 0xC00#32 })).map State.err =
      some 0xC00#32 ∧
    (nextOf (exec (.regWr 0x02#8 0xFFFFFFFF#32) { configured with err := 0x2005#32 })).map State.err =
      some 0#32 := by decide

/-- C-7, D-11: reserved bits are not stored; ID is read-only. -/
theorem test_regWr_num :
    (nextOf (exec (.regWr 0x04#8 0x00010003#32) configured)).map State.numTx = some 3#32 ∧
    answerOf (exec (.regWr 0x00#8 1#32) configured) = some ⟨.err, 14#8, .none⟩ := by decide

/-- C-2: STATUS of a stopped pipeline is 0x7. -/
theorem test_tick : answerOf (exec .tick stopped) = some ⟨.ok, 0#8, .u32 7#32⟩ := by decide

/-- C-3: the data-read time-out is not due at 60 and due at 61. -/
theorem test_tick_timeout :
    (nextOf (step (State.presenting { running with lastPktTime := 10, readTimeout := 50 } .tick 60))).map
      State.pipeState = some .running ∧
    answerOf (step (State.presenting { running with lastPktTime := 10, readTimeout := 50 } .tick 61)) =
      some ⟨.ok, 0#8, .u32 0xB#32⟩ := by decide

/-- C-1: geometry 0, and a geometry at the limit. -/
theorem test_pipeStart :
    answerOf (exec .pipeStart (State.resetWith params)) = some ⟨.err, 4#8, .none⟩ ∧
    (nextOf (exec .pipeStart { configured with numAdc := 16 })).map State.pipeState =
      some .running := by decide

/-- C-1: S above MAX_FRAME_SAMPLES; C-2: a stopped pipeline. -/
theorem test_pipeStart_refused :
    answerOf (exec .pipeStart { configured with numAdc := 17 }) = some ⟨.err, 4#8, .none⟩ ∧
    answerOf (exec .pipeStart stopped) = some ⟨.err, 2#8, .none⟩ := by decide

/-- 44_control.md R217. -/
theorem test_pipeStop :
    (nextOf (exec .pipeStop running)).map (fun t => (t.pipeState, t.stopReason)) =
      some (.stopped, .stopRequested) ∧
    (nextOf (exec .pipeStop blocked)).map (fun t => (t.pipeState, t.stopReq)) =
      some (.publishBlocked, true) := by decide

/-- C-12. -/
theorem test_framePop_empty : exec .framePop running = .next running.hold := rfl

/-- 44_control.md R226: the held frame enters the channel and the pipeline runs again. -/
theorem test_framePop_drains :
    (nextOf (exec .framePop blocked)).map (fun t => (t.outq, t.holdq, t.pipeState, t.framesOutTotal)) =
      some ([⟨1, [4#16, 5#16, 6#16, 7#16]⟩], [], .running, 1#32) := by decide

/-! ### Reassembly -/

/-- V-R5: a header alone, sequence number -1. -/
theorem test_pktIn_header :
    (nextOf (exec (.pktIn [255#8, 255#8, 255#8, 255#8, 0#8, 0#8, 0#8, 0#8, 0#8, 8#8]) running)).map
      (fun t => (t.lastSeq, t.pending.length, t.statusWord)) = some (0xFFFFFFFF#32, 0, 1#32) := by
  decide

/-- V-R6 in small: four words from sample 2 on straddle frames 0 and 1. -/
theorem test_pktIn_straddles :
    (nextOf (exec (.pktIn (datagram 4 [1#8, 0#8, 2#8, 0#8, 3#8, 0#8, 0#8, 1#8])) running)).map
      (fun t => t.pending) =
      some [(0, ⟨[none, none, some 1#16, some 2#16], 0#64⟩),
        (1, ⟨[some 3#16, some 0x100#16, none, none], 0#64⟩)] := by decide

/-- EV-1. -/
theorem test_evict :
    answerOf (exec (.evict 60#32) withPending) = some ⟨.ok, 0#8, .fids [3]⟩ ∧
    (nextOf (exec (.evict 60#32) withPending)).map (fun t => t.pending.map Prod.fst) = some [4] := by
  decide

/-- EV-5: the boundary. -/
theorem test_evict_boundary :
    answerOf (exec (.evict 20#32)
      { withPending with now := 30#64, pending := [(0, ⟨[none], 10#64⟩)] }) =
      some ⟨.ok, 0#8, .fids []⟩ := by decide

/-! ### Decoder -/

/-- U-15. -/
theorem test_unswizzle :
    answerOf (exec (.unswizzle [0x1234#16, 0x5678#16, 0x9ABC#16, 0xDEF0#16]) configured) =
      some ⟨.ok, 0#8, .words [0x0CAF#16, 0x00CA#16, 0x0FF6#16, 0x0500#16]⟩ := by decide

/-- U-7, U-19. -/
theorem test_unswizzle_corners :
    unswizzle [0#16, 0#16, 0#16, 4#16] = [0#16, 0#16, 0#16, 0x0800#16] ∧
    answerOf (exec (.unswizzle [0#16, 0#16, 0#16, 0#16, 0#16]) configured) =
      some ⟨.err, 7#8, .none⟩ := by decide

/-- S-1. -/
theorem test_swizzle :
    swizzle [0x0123#16, 0x0456#16, 0x0789#16, 0x0ABC#16] =
      [0x0AAA#16, 0x0666#16, 0x01E1#16, 0x001F#16] := by decide

/-- RS-1. -/
theorem test_reshape :
    answerOf (exec (.reshape [0#16, 1#16, 2#16, 3#16, 4#16, 5#16, 6#16, 7#16])
      { configured with numTx := 2, numRx := 2, numAdc := 2 }) =
      some ⟨.ok, 0#8, .words [0#16, 2#16, 1#16, 3#16, 4#16, 6#16, 5#16, 7#16]⟩ := by decide

/-- RS-5. -/
theorem test_reshape_three :
    reshape 1 1 2 3 [0#16, 1#16, 2#16, 3#16, 4#16, 5#16] =
      [0#16, 2#16, 4#16, 1#16, 3#16, 5#16] := by decide

/-- The document's own examples (95 section 1.1). -/
theorem test_signconv :
    answerOf (exec (.signconv [4095#16, 2047#16, 2048#16, 0#16]) configured) =
      some ⟨.ok, 0#8, .words [0xFFFF#16, 0x07FF#16, 0xF800#16, 0#16]⟩ := by decide

/-- SC-3. -/
theorem test_signconv_range :
    answerOf (exec (.signconv [0x1000#16]) configured) = some ⟨.err, 3#8, .none⟩ := by decide

/-- DF-2. -/
theorem test_decodeFrame :
    answerOf (exec (.decodeFrame [0#16, 0#16, 0#16, 4#16]) configured) =
      some ⟨.ok, 0#8, .words [0#16, 0#16, 0#16, 0xF800#16]⟩ := by decide

/-- DF-5, DF-6: the multiple of 4 is checked before the geometry. -/
theorem test_decodeFrame_checks :
    answerOf (exec (.decodeFrame [0#16, 0#16, 0#16, 0#16, 0#16, 0#16]) (State.resetWith params)) =
      some ⟨.err, 7#8, .none⟩ ∧
    answerOf (exec (.decodeFrame [0#16, 0#16, 0#16, 0#16]) (State.resetWith params)) =
      some ⟨.err, 4#8, .none⟩ := by decide

/-! ### Serial CLI -/

/-- 30_encoding.md R94, R95: the fixed lines and the keywords are their ASCII texts. -/
theorem test_ascii_lines :
    lineSensorStart = ascii "sensorStart 0 0 0 0" ∧ lineSensorStop = ascii "sensorStop 0" ∧
    keywordDone = ascii "Done" ∧ keywordError = ascii "Error" := by decide

/-- 43_cli_fsm.md R178, its example. -/
theorem test_cliSend :
    (nextOf (exec (.cliSend (ascii "sensorStop 0")) configured)).map
      (fun t => (t.tx, t.cliState, t.cliDeadline)) =
      some (ascii "sensorStop 0\n", .wait, 2000) := by decide

/-- L-5. -/
theorem test_cliSend_lf :
    answerOf (exec (.cliSend (ascii "a\nb")) configured) = some ⟨.err, 3#8, .none⟩ := by decide

/-- L-1. -/
theorem test_cliSendConfig :
    (nextOf (exec (.cliSendConfig (ascii "a\r\n  % c\n\t\n b \nx % y\nlast")) configured)).map
      (fun t => (t.tx, t.cfgLines)) =
      some (ascii "a\n",
        [⟨1, ascii "a"⟩, ⟨4, ascii " b "⟩, ⟨5, ascii "x % y"⟩, ⟨6, ascii "last"⟩]) := by decide

/-- L-2: STATUS is 0x1100. -/
theorem test_cliSendConfig_comments :
    (nextOf (exec (.cliSendConfig (ascii "% only\n\n   \n")) configured)).map
      (fun t => (t.tx, t.statusWord)) = some ([], 0x1100#32) := by decide

/-- 43_cli_fsm.md R184, its example. -/
theorem test_cliStart :
    (nextOf (exec .cliStart { configured with now := 5#64 })).map (fun t => (t.tx, t.cliDeadline)) =
      some (ascii "sensorStart 0 0 0 0\n", 2005) := by decide

/-- 43_cli_fsm.md R185, R187. -/
theorem test_cliStop :
    (nextOf (exec .cliStop configured)).map State.tx = some (ascii "sensorStop 0\n") ∧
    answerOf (exec .cliStop (waiting .send)) = some ⟨.err, 11#8, .none⟩ := by decide

/-- 43_cli_fsm.md R186, its example: the time-out at 2001 closes the port. -/
theorem test_cliClose :
    (nextOf (exec .cliClose (waiting .send))).map (fun t => (t.cliJob, t.tx)) =
      some (.close, ascii "sensorStop 0\n") ∧
    (nextOf (step (State.presenting (waiting .close) .tick 2001))).map
      (fun t => (t.cliState, t.cliOutcome, t.cliResult)) =
      some (.closed, .timedOut, .success) := by decide

/-- 43_cli_fsm.md R190, its example: LF after `Done`. -/
theorem test_cliRxByte :
    (nextOf (exec (.cliRxByte 0x0A#8) { waiting .send with rxBuf := lineDone })).map
      (fun t => (t.cliOutcome, t.cliResult, t.cliState)) =
      some (.acknowledged, .success, .idle) := by decide

/-- 43_cli_fsm.md R194: `Error` wins; 0xC3 is dropped. -/
theorem test_cliRxByte_corners :
    (nextOf (exec (.cliRxByte 0x0A#8) { waiting .send with rxBuf := lineError })).map
      (fun t => (t.cliOutcome, t.cliResult)) = some (.rejected, .fail) ∧
    (nextOf (exec (.cliRxByte 0xC3#8) (waiting .send))).map State.rxBuf = some [] := by decide

/-! ### Witnesses: the hypotheses of every statement are met -/

/-- NOP at the boundary `now` = the last `now`. -/
theorem witness_StepRunsDecodedOperation :
    (State.presenting withPending .nop 100).input = .op ⟨0x00000000#32, .none, 100#64⟩ :: [] ∧
    withPending.now.toNat ≤ (100#64).toNat ∧ decode 0x00000000#32 .none = .ok .nop :=
  ⟨rfl, by decide, rfl⟩

theorem witness_RejectedCommandRaises :
    decode 0x00000013#32 .none = .error .reservedOp ∧
    (nextOf (step { running with input := [.op ⟨0x00000013#32, .none, 5000#64⟩] })).map
      (fun t => (t.err, t.stopReason)) = some (0x21#32, .protocolTimeout) := ⟨rfl, by decide⟩

/-- DecodeOnlyOfEncoded, and each clause of DecodeFollowsCheckOrder at a word that fails that check first. -/
theorem witness_DecodeFollowsCheckOrder :
    Operation.reservedClear ⟨0x00010013#32, .u8 0#8, 0#64⟩ = false ∧
    (Operation.reservedClear ⟨0x00000113#32, .u8 0#8, 0#64⟩ = true ∧
      Operation.opAssigned ⟨0x00000113#32, .u8 0#8, 0#64⟩ = false) ∧
    (Operation.reservedClear ⟨0x00000112#32, .none, 0#64⟩ = true ∧
      Operation.opAssigned ⟨0x00000112#32, .none, 0#64⟩ = true ∧
      Operation.regAllowed ⟨0x00000112#32, .none, 0#64⟩ = false) ∧
    (Operation.reservedClear ⟨0x00000012#32, .none, 0#64⟩ = true ∧
      Operation.opAssigned ⟨0x00000012#32, .none, 0#64⟩ = true ∧
      Operation.regAllowed ⟨0x00000012#32, .none, 0#64⟩ = true ∧
      Operation.argMatches ⟨0x00000012#32, .none, 0#64⟩ = false) ∧
    Operation.wellFormed ⟨0x00000012#32, .u8 0#8, 0#64⟩ = true := by decide

theorem witness_StepRefusesOnlyReversedTime :
    step (State.presenting withPending .nop 99) = .refused .timeReversed ∧
    running.input = [] := ⟨rfl, rfl⟩

/-- Each time-out, due at its first tick and not due at the tick before. -/
theorem witness_TimeCheckFiresDueTimeouts :
    (running.pipeState = .running ∧
      running.lastPktTime.toNat + running.readTimeout.toNat < (1001#64 : Time).toNat ∧
      ¬running.lastPktTime.toNat + running.readTimeout.toNat < (1000#64 : Time).toNat) ∧
    ∀ j ∈ [CliJob.send, .start, .stop, .config, .close],
      (waiting j).cliState = .wait ∧ (waiting j).cliJob = j ∧
      (waiting j).cliDeadline < (2001#64 : Time).toNat ∧
      ¬(waiting j).cliDeadline < (2000#64 : Time).toNat := by decide

/-- The first and the last index. -/
theorem witness_ResetRegistersRead : (0x00#8).toNat ≤ 0x13 ∧ (0x13#8).toNat ≤ 0x13 := by decide

theorem witness_ResetEventRestoresState :
    ({ blocked with input := [.reset, .op (present .nop 0#64)] } : State).input =
      .reset :: [.op (present .nop 0#64)] := rfl

theorem witness_RegisterReadMap :
    blocked.outq.length < 2 ^ 32 ∧
    (sending.cliJob = .config ∧ sending.cliState = .wait ∧
      sending.cfgLines[sending.cfgIdx]? = some ⟨1, [0x61#8]⟩) ∧
    ¬((waiting .send).cliJob = .config ∧
      ((waiting .send).cliState = .wait ∨ (waiting .send).cliResult = .fail)) := by decide

theorem witness_RegisterWriteEffects : configured.pipeState = .idle := rfl

/-- Indices at both ends of each range. -/
theorem witness_RegisterAccessErrors :
    0x13 < (0x14#8).toNat ∧ 0x13 < (0xFF#8).toNat ∧ (0x01#8).toNat ≤ 0x01 ∧ 0x0B ≤ (0x0B#8).toNat ∧
    (0x13#8).toNat ≤ 0x13 ∧ 0x03 ≤ (0x03#8).toNat ∧ (0x08#8).toNat ≤ 0x08 ∧ (0x0A#8).toNat = 0x0A ∧
    stopped.pipeState ≠ .idle := by decide

/-- S = 16 is the limit and S = 20 is above it. -/
theorem witness_PipeStartOutcomes :
    running.pipeState = .running ∧ blocked.pipeState = .publishBlocked ∧ stopped.pipeState = .stopped ∧
    configured.pipeState = .idle ∧
    ({ configured with numAdc := 16 } : State).samplesPerFrame = configured.cfg.maxFrameSamples ∧
    ({ configured with numAdc := 17 } : State).samplesPerFrame = configured.cfg.maxFrameSamples + 1 ∧
    (State.resetWith params).numTx.toNat = 0 := by decide

theorem witness_PipeStopOutcomes :
    configured.pipeState = .idle ∧ running.pipeState = .running ∧
    blocked.pipeState = .publishBlocked ∧ stopped.pipeState = .stopped := by decide

/-- Nothing to take; a frame with nothing held; a drain that empties `holdq` (k = 1), with and without a
stop request; and one that does not. -/
theorem witness_FramePopOutcomes :
    running.outq = [] ∧
    (({ stopped with outq := blocked.outq } : State).pipeState ≠ .publishBlocked) ∧
    (blocked.pipeState = .publishBlocked ∧ 1 = min blocked.holdq.length (blocked.cfg.outDepth - 0)) ∧
    (nextOf (exec .framePop { blocked with stopReq := true })).map State.stopReason =
      some .stopRequested ∧
    (nextOf (exec .framePop { blocked with holdq := blocked.holdq ++ blocked.outq })).map
      State.pipeState = some .publishBlocked := by decide

theorem witness_DatagramFieldsParsed :
    10 ≤ (datagram 8 []).length ∧ packetOffset (datagram 9 []) = 9 ∧ sampleOffset (datagram 9 []) = 4 ∧
    packetPayload (datagram 0 [0x34#8, 0x12#8]) = [0x1234#16] ∧
    packetSeq ([0#8, 0#8, 0#8, 0x80#8] ++ List.replicate 6 0#8) = -2147483648 := by decide

/-- 9 and 11 bytes are malformed, as are 4097; 10 and 4096 are not. -/
theorem witness_PktInTurnedAway :
    ((datagram 0 []).take 9).length < 10 ∧ ((datagram 0 [0#8]).length - 10) % 2 = 1 ∧
    4096 < 4097 ∧ malformed (datagram 0 []) = false ∧ malformed (datagram 0 [0#8]) = true ∧
    running.pipeState = .running ∧ blocked.pipeState = .publishBlocked ∧ stopped.pipeState = .stopped ∧
    configured.pipeState = .idle := by decide

/-- A datagram that completes nothing, and one that completes frames 0 and 1; their walks are the folds of
the statement. -/
theorem witness_PktInTakesDatagram :
    (∀ d, running.datagramWalk d =
      (splitChunks (packetPayload d).length running.samplesPerFrame (sampleOffset d)
        (packetPayload d)).foldl (placeChunk running.cfg.maxPending running.samplesPerFrame running.now)
        ⟨running.pending, [], false⟩) ∧
    malformed (datagram 4 [1#8, 0#8]) = false ∧
    (running.datagramWalk (datagram 4 [1#8, 0#8])).completed = [] ∧
    (running.datagramWalk (datagram 0 (List.replicate 16 0#8))).completed.map Prod.fst = [0, 1] ∧
    answerOf (exec (.pktIn (datagram 0 (List.replicate 16 0#8))) running) =
      some ⟨.ok, 0#8, .packet [0, 1] []⟩ := ⟨fun _ => rfl, by decide⟩

theorem witness_PktInLeavesRestUnchanged :
    (nextOf (exec (.pktIn (datagram 0 (List.replicate 16 0#8))) running)).map
      (fun t => (t.pipeState, t.outq.length, t.holdq.length)) = some (.publishBlocked, 1, 1) := by
  decide

/-- S = 1 and S = 4, a payload over three frames. -/
theorem witness_ChunksCoverPayload :
    splitChunks 6 4 3 [1#16, 2#16, 3#16, 4#16, 5#16, 6#16] =
      [⟨0, 3, [1#16]⟩, ⟨1, 0, [2#16, 3#16, 4#16, 5#16]⟩, ⟨2, 0, [6#16]⟩] ∧
    splitChunks 2 1 7 [1#16, 2#16] = [⟨7, 0, [1#16]⟩, ⟨8, 0, [2#16]⟩] := by decide

theorem witness_FrameIdRange :
    malformed (datagram 2 [1#8, 0#8]) = false ∧
    (⟨0, 1, [1#16]⟩ : Chunk) ∈ splitChunks (packetPayload (datagram 2 [1#8, 0#8])).length 2
      (sampleOffset (datagram 2 [1#8, 0#8])) (packetPayload (datagram 2 [1#8, 0#8])) ∧
    (⟨1, 0, [1#16]⟩ : Chunk) ∈ splitChunks (packetPayload (datagram 2 [1#8, 0#8])).length 1
      (sampleOffset (datagram 2 [1#8, 0#8])) (packetPayload (datagram 2 [1#8, 0#8])) := by decide

/-- A full store without the frame; an entry of its own; a fresh entry; a chunk that completes. -/
theorem witness_ChunkPlacement :
    (storeFind withPending.pending 5 = none ∧ withPending.pending.length = 2) ∧
    storeFind withPending.pending 3 = some ⟨[some 0#16, none, none, none], 10#64⟩ ∧
    (placeChunk (some 3) 4 7#64 ⟨withPending.pending, [], false⟩ ⟨5, 0, [1#16]⟩).pending.length = 3 ∧
    (placeChunk (some 2) 4 7#64 ⟨withPending.pending, [], false⟩ ⟨3, 1, [1#16, 2#16, 3#16]⟩).completed =
      [(3, [0#16, 1#16, 2#16, 3#16])] ∧
    (placeChunk (some 2) 4 7#64 ⟨withPending.pending, [], false⟩ ⟨5, 0, [1#16]⟩).overflow = true := by
  decide

/-- Two chunks, the later one first. -/
theorem witness_ReassemblyInAnyOrder :
    storeFind withPending.pending 5 = none ∧ withPending.pending.length < 3 ∧
    [((7#64 : Time), (⟨5, 1, [8#16, 9#16]⟩ : Chunk)), (9#64, ⟨5, 0, [7#16]⟩)].foldl
      (fun w c => placeChunk (some 3) 3 c.1 w c.2) ⟨withPending.pending, [], false⟩ =
      ⟨withPending.pending, [(5, [7#16, 8#16, 9#16])], false⟩ ∧
    (∀ q < 3, [((7#64 : Time), (⟨5, 1, [8#16, 9#16]⟩ : Chunk)), (9#64, ⟨5, 0, [7#16]⟩)].countP
      (fun c => decide (c.2.pos ≤ q ∧ q < c.2.pos + c.2.words.length)) = 1) := by decide

theorem witness_EvictRemovesStale : storeWf withPending.pending = true := by decide

/-- S = 6 cannot be decoded; S = 4 with room, without room under each policy, and while blocked. -/
theorem witness_PublishFollowsPolicy :
    ({ running with numAdc := 6 } : State).samplesPerFrame % 4 ≠ 0 ∧ running.samplesPerFrame % 4 = 0 ∧
    running.outq.length < running.cfg.outDepth ∧ running.cfg.outDepth ≤ blocked.outq.length ∧
    running.pipeState ≠ .publishBlocked ∧ running.ctrl.getLsbD 1 = false ∧
    ({ running with ctrl := 3#32 } : State).ctrl.getLsbD 1 = true ∧
    blocked.pipeState = .publishBlocked := by decide

theorem witness_UnswizzleBitMap :
    [0x1234#16, 0x5678#16, 0x9ABC#16, 0xDEF0#16].length ≤ configured.cfg.maxFrameSamples ∧
    [0x1234#16, 0x5678#16, 0x9ABC#16, 0xDEF0#16].length % 4 = 0 := by decide

theorem witness_UnswizzleSwizzleInverse :
    [0xFFF#16, 0#16, 0x800#16, 1#16].length % 4 = 0 ∧
    ∀ x ∈ [0xFFF#16, 0#16, 0x800#16, 1#16], x.toNat < 4096 := ⟨rfl, by simp⟩

/-- R = 2 and A = 3; and R = 1. -/
theorem witness_ReshapeMovesWords :
    ({ configured with numRx := 2, numAdc := 3 } : State).geometryValid = true ∧
    [0#16, 1#16, 2#16, 3#16, 4#16, 5#16].length =
      ({ configured with numRx := 2, numAdc := 3 } : State).samplesPerFrame ∧
    configured.geometryValid = true ∧ configured.numRx.toNat = 1 := by decide

theorem witness_SignconvValues :
    [4095#16, 0#16].length ≤ configured.cfg.maxFrameSamples ∧
    ∀ x ∈ [4095#16, 0#16], x.toNat ≤ 0x0FFF := ⟨by decide, by simp⟩

theorem witness_DecodeFrameElements :
    configured.geometryValid = true ∧ [0#16, 0#16, 0#16, 4#16].length = configured.samplesPerFrame ∧
    [0#16, 0#16, 0#16, 4#16].length % 4 = 0 ∧ configured.pipeState ≠ .publishBlocked ∧
    configured.outq.length < configured.cfg.outDepth := by decide

/-- 17 words are too long and 16 are not; no geometry; a length that is not S; a word above 0x0FFF. -/
theorem witness_DecoderCheckOrder :
    configured.cfg.maxFrameSamples < (List.replicate 17 0#16).length ∧
    (List.replicate 16 0#16).length ≤ configured.cfg.maxFrameSamples ∧
    (List.replicate 5 0#16).length % 4 ≠ 0 ∧ (State.resetWith params).geometryValid = false ∧
    configured.geometryValid = true ∧ (List.replicate 8 0#16).length ≠ configured.samplesPerFrame ∧
    0x0FFF < (0x1000#16).toNat := by decide

theorem witness_DecoderOperationsPure :
    exec (.signconv [0x1000#16]) blocked = .next (blocked.raise .badArgument) ∧
    exec (.unswizzle []) blocked = .next (blocked.respond (.words [])) := ⟨rfl, rfl⟩

/-- The fixed lines of the statement, byte by byte their ASCII texts of 19 and 12 bytes; an empty line and
one of MAX_LINE bytes; a waiting job is closed. -/
theorem witness_CliCommandsTransmit :
    ([0x73#8, 0x65#8, 0x6E#8, 0x73#8, 0x6F#8, 0x72#8, 0x53#8, 0x74#8, 0x61#8, 0x72#8,
      0x74#8, 0x20#8, 0x30#8, 0x20#8, 0x30#8, 0x20#8, 0x30#8, 0x20#8, 0x30#8] : List Byte) =
      ascii "sensorStart 0 0 0 0" ∧
    ([0x73#8, 0x65#8, 0x6E#8, 0x73#8, 0x6F#8, 0x72#8, 0x53#8, 0x74#8, 0x6F#8, 0x70#8,
      0x20#8, 0x30#8] : List Byte) = ascii "sensorStop 0" ∧
    configured.cliState = .idle ∧ 0x0A#8 ∉ List.replicate 24 0x78#8 ∧
    (List.replicate 24 0x78#8).length ≤ configured.cfg.maxLine ∧ 0x0A#8 ∉ ([] : List Byte) ∧
    (waiting .config).cliState ≠ .closed := by decide

theorem witness_CliGateErrors :
    closed.cliState = .closed ∧ (waiting .send).cliState = .wait ∧ configured.cliState = .idle ∧
    0x0A#8 ∈ ascii "a\nb" ∧ configured.cfg.maxLine < (List.replicate 25 0x78#8).length := by decide

/-- Texts of 41 and 40 bytes; a forwardable line of 25 bytes; no forwardable line; two. -/
theorem witness_CliSendConfigOutcomes :
    configured.cliState = .idle ∧ configured.cfg.maxCfgBytes < (List.replicate 41 0x0A#8).length ∧
    (List.replicate 40 0x0A#8).length ≤ configured.cfg.maxCfgBytes ∧
    (∃ l ∈ forwardableLines (List.replicate 25 0x78#8), configured.cfg.maxLine < l.bytes.length) ∧
    forwardableLines (ascii "% c\n \n") = [] ∧
    forwardableLines (ascii "a\n\nb") = [⟨1, ascii "a"⟩, ⟨3, ascii "b"⟩] := by decide

theorem witness_ConfigTextLines :
    splitLines (ascii "a\n\nb\n") = [ascii "a", [], ascii "b"] ∧ splitLines [] = [] ∧
    (ascii "a").getLast? ≠ some 0x0D#8 ∧ isForwardable (ascii " \t% x") = false := by decide

/-- 0x80 and 0x7F; `rx_buf` of 23 and of 24 bytes; a line without a keyword. -/
theorem witness_RxByteCollectsLine :
    configured.cliState ≠ .closed ∧ 0x80 ≤ (0x80#8).toNat ∧ (0x7F#8).toNat < 0x80 ∧ 0x7F#8 ≠ 0x0A#8 ∧
    (List.replicate 23 0x78#8).length < configured.cfg.maxLine ∧
    configured.cfg.maxLine ≤ (List.replicate 24 0x78#8).length ∧ configured.cliState = .idle ∧
    matchLine (ascii "done") = .none := by decide

/-- "Done" and "Error" lines for every job; the first and the last line of a CONFIG job. -/
theorem witness_KeywordLineEndsWait :
    (∀ j ∈ [CliJob.send, .start, .stop, .config, .close],
      ({ waiting j with rxBuf := lineDone } : State).cliState = .wait) ∧
    matchLine lineDone = .acknowledged ∧ matchLine lineError = .rejected ∧
    sending.cfgLines[sending.cfgIdx + 1]? = some ⟨4, [0x62#8]⟩ ∧
    ({ sending with cfgIdx := 1 } : State).cfgLines.length ≤ 1 + 1 := by decide

/-- The LF at the deadline and one tick after it. -/
theorem witness_KeywordBeforeDeadlineDecides :
    (State.presenting { waiting .send with rxBuf := lineDone } (.cliRxByte 0x0A#8) 2000).input =
      .op ⟨0x00000012#32, .u8 0x0A#8, 2000#64⟩ :: [] ∧
    (nextOf (step (State.presenting { waiting .send with rxBuf := lineDone } (.cliRxByte 0x0A#8)
      2000))).map State.cliResult = some .success ∧
    (nextOf (step (State.presenting { waiting .send with rxBuf := lineDone } (.cliRxByte 0x0A#8)
      2001))).map State.cliResult = some .fail := ⟨rfl, by decide, by decide⟩

/-- A step out of each pipeline state. -/
theorem witness_PipelineTransitions :
    (nextOf (step (State.presenting configured .pipeStart 5))).map State.pipeState = some .running ∧
    (nextOf (step (State.presenting running (.pktIn []) 5))).map State.stopReason =
      some .malformedPacket ∧
    (nextOf (step (State.presenting blocked .framePop 5))).map State.pipeState = some .running ∧
    (nextOf (step (State.presenting stopped .pipeStart 5))).map State.pipeState = some .stopped := by
  decide

theorem witness_ClosedPortStaysClosed :
    (nextOf (step (State.presenting closed .cliClose 5))).map State.cliState = some .closed ∧
    closed.cliState = .closed := by decide

theorem witness_ConfigurationLocked :
    (nextOf (step (State.presenting running (.regWr 0x04#8 7#32) 5))).map State.numTx = some 1#32 ∧
    running.pipeState ≠ .idle := by decide

theorem witness_PendingStoreOwned :
    (nextOf (step (State.presenting withPending (.evict 60#32) 100))).map State.pending ≠
      some withPending.pending := by decide

theorem witness_ErrBitsSticky :
    (nextOf (step (State.presenting { running with err := 0x2001#32 } (.regWr 0x02#8 1#32) 5))).map
      State.err = some 0x2000#32 := by decide

/-- An ERR response, MALFORMED_PACKET, and a HOLD. -/
theorem witness_ErrorsArePrecise :
    answerOf (exec .pipeStart stopped) = some ⟨.err, 2#8, .none⟩ ∧
    answerOf (exec (.pktIn []) running) = some ⟨.err, 5#8, .none⟩ ∧
    answerOf (exec (.pktIn []) blocked) = some ⟨.hold, 0#8, .none⟩ ∧
    (nextOf (exec .pipeStart stopped)).map State.responses = some (stopped.responses ++
      [⟨.err, 2#8, .none⟩]) := by decide

theorem witness_QuiescentOutlastsTime :
    stopped.quiescent = true ∧ closed.quiescent = true ∧ running.quiescent = false := by decide

/-! ### Witnesses of the invariants, each at a state from which a step goes on -/

theorem witness_StepKeepsReservedZero :
    ReservedZero (State.presenting { running with err := 0x3FFF#32, ctrl := 3#32 } .nop 5) ∧
    (nextOf (step (State.presenting { running with err := 0x3FFF#32, ctrl := 3#32 } .nop 5))).isSome =
      true := by
  refine ⟨⟨?_, ?_, ?_, ?_, ?_, ?_⟩, ?_⟩ <;> decide

theorem witness_StepKeepsPipelineConsistent :
    PipelineConsistent (State.presenting { blocked with stopReq := true } .framePop 5) ∧
    (nextOf (step (State.presenting { blocked with stopReq := true } .framePop 5))).map
      State.pipeState = some .stopped := by
  refine ⟨⟨?_, ?_, ?_, ?_⟩, ?_⟩ <;> decide

theorem witness_StepKeepsChannelBounded :
    ChannelBounded (State.presenting blocked .framePop 5) ∧
    (nextOf (step (State.presenting blocked .framePop 5))).map (fun t => t.outq.length) = some 1 := by
  refine ⟨⟨?_, ?_, ?_, ?_⟩, ?_⟩ <;> decide

theorem witness_StepKeepsFramesDecoded :
    FramesDecoded (State.presenting blocked .framePop 5) ∧
    (nextOf (step (State.presenting blocked .framePop 5))).map (fun t => t.outq.length) = some 1 := by
  refine ⟨⟨by decide, ?_, by decide⟩, by decide⟩
  simp [State.presenting, blocked]

theorem witness_StepKeepsStoreSound :
    StoreSound (State.presenting withPending (.evict 60#32) 100) ∧
    (nextOf (step (State.presenting withPending (.evict 60#32) 100))).map
      (fun t => t.pending.length) = some 1 := by
  refine ⟨⟨?_, ?_, ?_, ?_, ?_⟩, ?_⟩ <;> decide

theorem witness_StepKeepsCliConsistent :
    CliConsistent (State.presenting { sending with rxBuf := lineDone } (.cliRxByte 0x0A#8) 5) ∧
    (nextOf (step (State.presenting { sending with rxBuf := lineDone } (.cliRxByte 0x0A#8) 5))).map
      (fun t => (t.cfgIdx, t.tx)) = some (1, ascii "b\n") := by
  refine ⟨⟨?_, ?_, ?_, ?_, ?_⟩, ?_⟩ <;> decide

theorem witness_StepKeepsTimesPast :
    TimesPast (State.presenting withPending (.cliSend []) 100) ∧
    (nextOf (step (State.presenting withPending (.cliSend []) 100))).map State.cliDeadline =
      some 2100 := by
  refine ⟨⟨?_, ?_, ?_⟩, ?_⟩ <;> decide

theorem witness_ResetMeetsInvariants : params.wf = true ∧ Config.vectors.wf = true := by decide

end Sys2Proof.Tests
end

-- ==== Proofs: STATUS and its fields ====
section
/-! The fields of STATUS (10_state.md R32). `State.statusWord` appends them from bit 31 down, so a bit
range is read by dropping the fields below it (`BitVec.extractLsb'_append_eq_of_le`) and then the fields
above it (`BitVec.extractLsb'_append_eq_of_add_le`). One lemma per field; none opens the word again. -/

namespace Sys2Proof.Machine

/-- A bit range of STATUS as a range of the appended fields. The width is written as the sum of the
fields' widths (it is 32), which is the form the append lemmas match; the lemmas below therefore keep
`Nat.reduceAdd` from evaluating it. -/
theorem State.extractLsb'_statusWord (s : State) (start len : Nat) :
    s.statusWord.extractLsb' start len =
      BitVec.extractLsb' (n := 16 + 2 + 2 + 2 + 3 + 2 + 1 + 2 + 2) start len
        (BitVec.ofNat 16 (min s.outq.length 0xFFFF) ++ 0#2 ++ cliResultField s.cliResult ++
          cliOutcomeField s.cliOutcome ++ cliJobField s.cliJob ++ cliStateField s.cliState ++
          BitVec.ofBool s.stopReq ++ stopReasonField s.stopReason ++ pipeStateField s.pipeState) :=
  rfl

@[simp] theorem State.statusWord_pipeState (s : State) :
    s.statusWord.extractLsb' 0 2 = pipeStateField s.pipeState := by
  simp [State.extractLsb'_statusWord, BitVec.extractLsb'_append_eq_of_add_le, -Nat.reduceAdd]

@[simp] theorem State.statusWord_stopReason (s : State) :
    s.statusWord.extractLsb' 2 2 = stopReasonField s.stopReason := by
  simp [State.extractLsb'_statusWord, BitVec.extractLsb'_append_eq_of_le,
    BitVec.extractLsb'_append_eq_of_add_le, -Nat.reduceAdd]

@[simp] theorem State.statusWord_stopReq (s : State) :
    s.statusWord.extractLsb' 4 1 = BitVec.ofBool s.stopReq := by
  simp [State.extractLsb'_statusWord, BitVec.extractLsb'_append_eq_of_le,
    BitVec.extractLsb'_append_eq_of_add_le, -Nat.reduceAdd]

@[simp] theorem State.statusWord_cliState (s : State) :
    s.statusWord.extractLsb' 5 2 = cliStateField s.cliState := by
  simp [State.extractLsb'_statusWord, BitVec.extractLsb'_append_eq_of_le,
    BitVec.extractLsb'_append_eq_of_add_le, -Nat.reduceAdd]

@[simp] theorem State.statusWord_cliJob (s : State) :
    s.statusWord.extractLsb' 7 3 = cliJobField s.cliJob := by
  simp [State.extractLsb'_statusWord, BitVec.extractLsb'_append_eq_of_le,
    BitVec.extractLsb'_append_eq_of_add_le, -Nat.reduceAdd]

@[simp] theorem State.statusWord_cliOutcome (s : State) :
    s.statusWord.extractLsb' 10 2 = cliOutcomeField s.cliOutcome := by
  simp [State.extractLsb'_statusWord, BitVec.extractLsb'_append_eq_of_le,
    BitVec.extractLsb'_append_eq_of_add_le, -Nat.reduceAdd]

@[simp] theorem State.statusWord_cliResult (s : State) :
    s.statusWord.extractLsb' 12 2 = cliResultField s.cliResult := by
  simp [State.extractLsb'_statusWord, BitVec.extractLsb'_append_eq_of_le,
    BitVec.extractLsb'_append_eq_of_add_le, -Nat.reduceAdd]

@[simp] theorem State.statusWord_reserved (s : State) : s.statusWord.extractLsb' 14 2 = 0#2 := by
  simp [State.extractLsb'_statusWord, BitVec.extractLsb'_append_eq_of_le,
    BitVec.extractLsb'_append_eq_of_add_le, -Nat.reduceAdd]

@[simp] theorem State.statusWord_outLevel (s : State) :
    s.statusWord.extractLsb' 16 16 = BitVec.ofNat 16 (min s.outq.length 0xFFFF) := by
  simp [State.extractLsb'_statusWord, BitVec.extractLsb'_append_eq_of_le, -Nat.reduceAdd]

theorem State.getLsbD_statusWord_stopReq (s : State) : s.statusWord.getLsbD 4 = s.stopReq := by
  calc s.statusWord.getLsbD 4
      = (s.statusWord.extractLsb' 4 1).getLsbD 0 := by simp [-State.statusWord_stopReq]
    _ = (BitVec.ofBool s.stopReq).getLsbD 0 := by rw [State.statusWord_stopReq]
    _ = s.stopReq := by simp

/-- The saturated level fits its 16 bits, so the field reads it back unchanged. -/
theorem State.toNat_statusWord_outLevel (s : State) :
    (s.statusWord.extractLsb' 16 16).toNat = min s.outq.length 0xFFFF := by
  have hfits : min s.outq.length 0xFFFF < 2 ^ 16 := by omega
  rw [State.statusWord_outLevel, BitVec.toNat_ofNat, Nat.mod_eq_of_lt hfits]

/-- Settles O15, field by field: each `…Field` function is the rule's table of codes. -/
theorem statusFieldLayout : Obligations.StatusFieldLayout := by
  intro s
  exact ⟨s.statusWord_pipeState, s.statusWord_stopReason, s.getLsbD_statusWord_stopReq,
    s.statusWord_cliState, s.statusWord_cliJob, s.statusWord_cliOutcome, s.statusWord_cliResult,
    s.statusWord_reserved, s.toNat_statusWord_outLevel⟩

end Sys2Proof.Machine
end

-- ==== Proofs: fields of a data datagram ====
section
/-! The header and the payload of a data datagram (41_reassembly.md R112). Every field is a string of
bytes appended most significant first, so appending one byte at the low end, `toNat_append_byte`, is the
only fact about bit vectors needed; the byte orders are the orders in which the model appends. -/

namespace Sys2Proof.Machine

/-! ### Bytes -/

/-- A byte appended at the low end is a digit to base 256. -/
theorem toNat_append_byte {n : Nat} (x : BitVec n) (b : Byte) :
    (x ++ b).toNat = x.toNat * 2 ^ 8 + b.toNat := by
  rw [BitVec.toNat_append, ← Nat.shiftLeft_add_eq_or_of_lt b.isLt, Nat.shiftLeft_eq]

/-- Inside the string, `byteAt` is the byte there and never the default. -/
theorem getElem?_eq_byteAt {d : List Byte} {i : Nat} (h : i < d.length) :
    d[i]? = some (byteAt d i) := by
  simp [byteAt, h]

theorem byteAt_drop (d : List Byte) (k i : Nat) : byteAt (d.drop k) i = byteAt d (k + i) := by
  simp [byteAt, List.getD_eq_getElem?_getD]

/-! ### The header -/

/-- Bytes 0 to 3, the last one most significant, with the sign of two's complement. -/
theorem packetSeq_eq_of_toNat (d : List Byte) {u : Nat}
    (hu : u = (byteAt d 0).toNat + (byteAt d 1).toNat * 2 ^ 8 + (byteAt d 2).toNat * 2 ^ 16 +
      (byteAt d 3).toNat * 2 ^ 24) :
    packetSeq d = if u < 2 ^ 31 then (u : Int) else (u : Int) - 2 ^ 32 := by
  have htoNat : (byteAt d 3 ++ byteAt d 2 ++ byteAt d 1 ++ byteAt d 0).toNat = u := by
    simp only [toNat_append_byte]; omega
  have hsign : 2 * u < 2 ^ (8 + 8 + 8 + 8) ↔ u < 2 ^ 31 := by omega
  simp only [packetSeq, BitVec.toInt_eq_toNat_cond, htoNat, hsign]
  rfl

/-- Bytes 4 to 9, the first one most significant. -/
theorem packetOffset_eq (d : List Byte) :
    packetOffset d = (byteAt d 4).toNat * 2 ^ 40 + (byteAt d 5).toNat * 2 ^ 32 +
      (byteAt d 6).toNat * 2 ^ 24 + (byteAt d 7).toNat * 2 ^ 16 + (byteAt d 8).toNat * 2 ^ 8 +
      (byteAt d 9).toNat := by
  simp only [packetOffset, toNat_append_byte]; omega

theorem sampleOffset_eq_shiftRight (d : List Byte) : sampleOffset d = packetOffset d >>> 1 :=
  (Nat.shiftRight_one _).symm

/-- The frame of the first sample, by samples or by bytes. -/
theorem sampleOffset_div (d : List Byte) (S : Nat) :
    sampleOffset d / S = packetOffset d / (2 * S) :=
  Nat.div_div_eq_div_mul _ _ _

/-! ### The payload -/

/-- Two bytes make a word; an odd last byte makes none. -/
theorem length_wordsOfBytes : ∀ l : List Byte, (wordsOfBytes l).length = l.length / 2
  | [] | [_] => by simp [wordsOfBytes]
  | lo :: hi :: rest => by
    have ih := length_wordsOfBytes rest
    simp only [wordsOfBytes, List.length_cons]
    omega

/-- Word `i` is the bytes `2 i` and `2 i + 1`, the second one most significant. -/
theorem toNat_getD_wordsOfBytes : ∀ (l : List Byte) (i : Nat), i < l.length / 2 →
    ((wordsOfBytes l).getD i 0#16).toNat =
      (byteAt l (2 * i)).toNat + (byteAt l (2 * i + 1)).toNat * 2 ^ 8
  | [], i, h | [_], i, h => by simp at h
  | lo :: hi :: rest, 0, _ => by
    rw [Nat.add_comm]
    exact toNat_append_byte hi lo
  | lo :: hi :: rest, i + 1, h =>
    have hrest : i < rest.length / 2 := by simp only [List.length_cons] at h; omega
    toNat_getD_wordsOfBytes rest i hrest

theorem length_packetPayload (d : List Byte) : (packetPayload d).length = (d.length - 10) / 2 := by
  rw [packetPayload, length_wordsOfBytes, List.length_drop, hdrBytes]

theorem toNat_getD_packetPayload (d : List Byte) (i : Nat) (h : i < (d.length - 10) / 2) :
    ((packetPayload d).getD i 0#16).toNat =
      (byteAt d (10 + 2 * i)).toNat + (byteAt d (11 + 2 * i)).toNat * 2 ^ 8 := by
  have hi : i < (d.drop hdrBytes).length / 2 := by rwa [List.length_drop, hdrBytes]
  have hhigh : 10 + (2 * i + 1) = 11 + 2 * i := by omega
  rw [packetPayload, toNat_getD_wordsOfBytes _ i hi, byteAt_drop, byteAt_drop, hdrBytes, hhigh]

/-- Settles O21, field by field. The fields hold of shorter strings too, with the missing bytes 0. -/
theorem datagramFieldsParsed : Obligations.DatagramFieldsParsed := by
  intro d _
  exact ⟨fun _ hu => packetSeq_eq_of_toNat d hu, packetOffset_eq d, sampleOffset_eq_shiftRight d,
    sampleOffset_div d, length_packetPayload d, toNat_getD_packetPayload d,
    fun _ hi => getElem?_eq_byteAt hi⟩

end Sys2Proof.Machine
end

-- ==== Proofs: EVICT ====
section
/-! The eviction pass (41_reassembly.md R119). The entries it keeps and the frame ids it lists are cut
from the store by the same test, `isStale`. -/

namespace Sys2Proof.Machine

/-- An entry stays up to and at its time limit. -/
theorem not_isStale (now : Time) (timeout : Nat) (e : Entry) :
    (!isStale now timeout e) = decide (now.toNat ≤ e.firstSeen.toNat + timeout) := by
  rw [isStale, ← decide_not, decide_eq_decide, Nat.not_lt]

theorem mem_staleIds {now : Time} {timeout : Nat} {p : Store} {fid : Nat} :
    fid ∈ staleIds now timeout p ↔
      ∃ e, (fid, e) ∈ p ∧ e.firstSeen.toNat + timeout < now.toNat := by
  simp [staleIds, isStale]

theorem State.evictStale_eq (s : State) (timeout : Nat) :
    s.evictStale timeout =
      { s with
        pending := s.pending.filter
          (fun q => decide (s.now.toNat ≤ q.2.firstSeen.toNat + timeout))
        evictTotal := s.evictTotal + BitVec.ofNat 32 (staleIds s.now timeout s.pending).length } := by
  simp only [State.evictStale, not_isStale]

theorem exec_evict (timeout : U32) (s : State) :
    exec (.evict timeout) s =
      .next ((s.evictStale timeout.toNat).respond (.fids (staleIds s.now timeout.toNat s.pending))) :=
  rfl

/-- Settles O29. The canonical store lists the stale ids in order (`staleIds_sorted`). -/
theorem evictRemovesStale : Obligations.EvictRemovesStale := by
  intro s timeout hcanonical
  refine ⟨staleIds s.now timeout.toNat s.pending, ?_, staleIds_sorted _ _ hcanonical,
    fun _ => mem_staleIds⟩
  rw [exec_evict, State.evictStale_eq]

end Sys2Proof.Machine
end

-- ==== Proofs: UNSWIZZLE ====
section
/-! The bit map of UNSWIZZLE (42_rdif_decoder.md R141 to R143), from the single moved bit over the
sample and the block to the array. The proofs about arrays follow the recursion of `unswizzle`: its blocks
of four words, and the arrays of fewer than four words, which have no block. -/

namespace Sys2Proof.Machine

/-- Only bit `b` of a moved bit can be set; it is bit `n` of the word. -/
theorem getLsbD_moveBit (w : Word) (n b i : Nat) :
    (moveBit w n b).getLsbD i = (decide (i < 16 ∧ i = b) && w.getLsbD n) := by
  rcases Nat.lt_trichotomy i b with h | rfl | h
  · simp [moveBit, h, h.ne]
  · simp [moveBit]
  · have hpos : i - b ≠ 0 := by omega
    simp [moveBit, h.ne', hpos]

/-- The bit map of R142. Of the twelve bits moved into a sample, only one lands at a given place. -/
theorem getLsbD_blockSample (sh : Nat) (w0 w1 w2 w3 : Word) {j k : Nat} (hj : j < 4) (hk : k < 3) :
    (blockSample sh w0 w1 w2 w3).getLsbD (4 * k + j) =
      ([w0, w1, w2, w3].getD j 0#16).getLsbD (sh + k) := by
  simp only [blockSample, List.foldl, BitVec.getLsbD_or, getLsbD_moveBit]
  interval_cases k <;> interval_cases j <;> simp

theorem getLsbD_blockSample_high (sh : Nat) (w0 w1 w2 w3 : Word) {i : Nat} (hi : 12 ≤ i) :
    (blockSample sh w0 w1 w2 w3).getLsbD i = false := by
  have hne : ∀ b < 12, i ≠ b := by omega
  simp [blockSample, getLsbD_moveBit, hne]

theorem toNat_blockSample_lt (sh : Nat) (w0 w1 w2 w3 : Word) :
    (blockSample sh w0 w1 w2 w3).toNat < 4096 :=
  Nat.lt_pow_two_of_testBit (n := 12) _ fun _ hi => getLsbD_blockSample_high sh w0 w1 w2 w3 hi

theorem getD_unswizzle4 (w0 w1 w2 w3 : Word) {i : Nat} (hi : i < 4) :
    (unswizzle4 w0 w1 w2 w3).getD i 0#16 = blockSample (9 - 3 * i) w0 w1 w2 w3 := by
  interval_cases i <;> rfl

theorem length_unswizzle : ∀ w : List Word, w.length % 4 = 0 → (unswizzle w).length = w.length
  | [], _ => rfl
  | [_], h | [_, _], h | [_, _, _], h => by simp at h
  | w0 :: w1 :: w2 :: w3 :: rest, h => by
    have hrest : rest.length % 4 = 0 := by simp only [List.length_cons] at h; omega
    rw [unswizzle, List.length_append, length_unswizzle rest hrest, Nat.add_comm]
    rfl

/-- R143: block `m` of the result comes from block `m` of the array. -/
theorem getLsbD_getD_unswizzle {i j k : Nat} (hi : i < 4) (hj : j < 4) (hk : k < 3) :
    ∀ (w : List Word) (m : Nat), 4 * m + 3 < w.length →
      ((unswizzle w).getD (4 * m + i) 0#16).getLsbD (4 * k + j) =
        (w.getD (4 * m + j) 0#16).getLsbD (9 - 3 * i + k)
  | [], _, h | [_], _, h | [_, _], _, h | [_, _, _], _, h => by simp at h
  | w0 :: w1 :: w2 :: w3 :: rest, 0, _ => by
    have hblock : i < (unswizzle4 w0 w1 w2 w3).length := hi
    have hword : j < [w0, w1, w2, w3].length := hj
    calc ((unswizzle4 w0 w1 w2 w3 ++ unswizzle rest).getD (4 * 0 + i) 0#16).getLsbD (4 * k + j)
        = (blockSample (9 - 3 * i) w0 w1 w2 w3).getLsbD (4 * k + j) := by
          rw [Nat.zero_add, List.getD_append _ _ _ _ hblock, getD_unswizzle4 _ _ _ _ hi]
      _ = ([w0, w1, w2, w3].getD j 0#16).getLsbD (9 - 3 * i + k) :=
          getLsbD_blockSample _ _ _ _ _ hj hk
      _ = (([w0, w1, w2, w3] ++ rest).getD (4 * 0 + j) 0#16).getLsbD (9 - 3 * i + k) := by
          rw [Nat.zero_add, List.getD_append _ _ _ _ hword]
  | w0 :: w1 :: w2 :: w3 :: rest, m + 1, h => by
    have hrest : 4 * m + 3 < rest.length := by simp only [List.length_cons] at h; omega
    have hnext : ∀ n, 4 * (m + 1) + n = 4 * m + n + 4 := by omega
    rw [hnext, hnext]
    exact getLsbD_getD_unswizzle hi hj hk rest m hrest

theorem toNat_lt_of_mem_unswizzle : ∀ {w : List Word} {x : Word}, x ∈ unswizzle w → x.toNat < 4096
  | [], _, h | [_], _, h | [_, _], _, h | [_, _, _], _, h => by simp [unswizzle] at h
  | w0 :: w1 :: w2 :: w3 :: rest, x, h => by
    rcases List.mem_append.mp h with hblock | hrest
    · obtain ⟨sh, -, rfl⟩ := List.mem_map.mp hblock
      exact toNat_blockSample_lt sh w0 w1 w2 w3
    · exact toNat_lt_of_mem_unswizzle hrest

theorem exec_unswizzle_of_legal {s : State} {w : List Word} (hroom : w.length ≤ s.cfg.maxFrameSamples)
    (hblocks : w.length % 4 = 0) :
    exec (.unswizzle w) s = .next (s.respond (.words (unswizzle w))) := by
  simp [exec, execUnswizzle, Nat.not_lt.mpr hroom, hblocks]

/-- Settles O31, with the responded array that of `unswizzle`: the block's bit map, block by block. -/
theorem unswizzleBitMap : Obligations.UnswizzleBitMap := by
  intro s w hroom hblocks
  exact ⟨unswizzle w, exec_unswizzle_of_legal hroom hblocks, length_unswizzle w hblocks,
    fun m _ _ _ hm hi hj hk => getLsbD_getD_unswizzle hi hj hk w m hm,
    fun _ => toNat_lt_of_mem_unswizzle⟩

end Sys2Proof.Machine
end

-- ==== Proofs: SIGNCONV ====
section
/-! The sign conversion of 12-bit words (42_rdif_decoder.md R148, R149). -/

namespace Sys2Proof.Machine

/-- A 12-bit value fits the 16-bit carrier with its sign. -/
theorem toInt_signWord {v : Word} (hv : v.toNat ≤ 0x0FFF) : (signWord v).toInt = sconv v := by
  have hrange : -2048 ≤ sconv v ∧ sconv v ≤ 2047 := by unfold sconv; omega
  exact BitVec.toInt_ofInt_eq_self (by decide) (by omega) (by omega)

theorem exec_signconv_of_legal {s : State} {v : List Word} (hroom : v.length ≤ s.cfg.maxFrameSamples)
    (hsamples : ∀ x ∈ v, x.toNat ≤ 0x0FFF) :
    exec (.signconv v) s = .next (s.respond (.words (v.map signWord))) := by
  have hany : v.any (fun x => decide (0x0FFF < x.toNat)) = false := by
    simpa using hsamples
  simp [exec, execSignconv, Nat.not_lt.mpr hroom, hany]

/-- Settles O34: each word's 16-bit carrier reads back as the word's signed value. -/
theorem signconvValues : Obligations.SignconvValues := by
  intro s v hroom hsamples
  refine ⟨v.map signWord, exec_signconv_of_legal hroom hsamples, List.length_map _, fun x hx => ?_⟩
  have hmap : (v.map signWord).getD x 0#16 = signWord v[x] := by simp [hx]
  have hget : v.getD x 0#16 = v[x] := by simp [hx]
  rw [hmap, hget]
  exact toInt_signWord (hsamples _ (List.getElem_mem hx))

end Sys2Proof.Machine
end

-- ==== Proofs: lines of text ====
section
/-! How a configuration text is cut into lines, which lines are forwarded and what a received line
answers (43_cli_fsm.md R172, R179, R180). -/

namespace Sys2Proof.Machine

/-! ### The keywords of a line -/

theorem containsBytes_iff_infix (l k : List Byte) : containsBytes l k = true ↔ k <:+: l := by
  induction l with
  | nil => simp [containsBytes]
  | cons b rest ih =>
    rw [containsBytes, Bool.or_eq_true, List.isPrefixOf_iff_prefix, ih, List.infix_cons_iff]

theorem matchLine_cases (line : List Byte) :
    (keywordError <:+: line ∧ matchLine line = .rejected) ∨
    (¬keywordError <:+: line ∧ keywordDone <:+: line ∧ matchLine line = .acknowledged) ∨
    (¬keywordError <:+: line ∧ ¬keywordDone <:+: line ∧ matchLine line = .none) := by
  simp only [matchLine, containsBytes_iff_infix]
  split
  · next herror => exact .inl ⟨herror, rfl⟩
  · next herror =>
    split
    · next hdone => exact .inr (.inl ⟨herror, hdone, rfl⟩)
    · next hdone => exact .inr (.inr ⟨herror, hdone, rfl⟩)

/-- Settles O43: the three answers of `match` exclude each other. -/
theorem lineMatchIsSubstring : Obligations.LineMatchIsSubstring := by
  refine ⟨containsBytes_iff_infix, fun line => ?_⟩
  change (_ ↔ keywordError <:+: line) ∧ (_ ↔ ¬keywordError <:+: line ∧ keywordDone <:+: line) ∧ _
  rcases matchLine_cases line with ⟨herror, h⟩ | ⟨herror, hdone, h⟩ | ⟨herror, hdone, h⟩
  · simp [h, herror]
  · simp [h, herror, hdone]
  · simp [h, herror, hdone]

/-! ### Splitting at every LF -/

@[simp] theorem splitLines_cons_LF (t : List Byte) :
    splitLines (byteLF :: t) = [] :: splitLines t := by
  simp [splitLines]

theorem splitLines_cons_of_ne {b : Byte} (hb : b ≠ byteLF) {t l : List Byte} {ls : List (List Byte)}
    (ht : splitLines t = l :: ls) : splitLines (b :: t) = (b :: l) :: ls := by
  simp [splitLines, hb, ht]

theorem splitLines_singleton_of_ne {b : Byte} (hb : b ≠ byteLF) : splitLines [b] = [[b]] := by
  simp [splitLines, hb]

/-- Every byte of a text, an LF too, begins or joins a line. -/
theorem splitLines_cons_ne_nil (b : Byte) (t : List Byte) : splitLines (b :: t) ≠ [] := by
  unfold splitLines
  split
  · simp
  · split <;> simp

theorem byteLF_notMem_of_mem_splitLines (t : List Byte) : ∀ l ∈ splitLines t, byteLF ∉ l := by
  induction t with
  | nil => simp [splitLines]
  | cons b t ih =>
    by_cases hb : b = byteLF
    · subst hb; simpa using ih
    · cases ht : splitLines t with
      | nil => simp [splitLines, hb, ht, Ne.symm hb]
      | cons l ls =>
        rw [ht] at ih
        simpa [splitLines_cons_of_ne hb ht, Ne.symm hb] using ih

/-- The text with every line ended: an LF is added to a text that ends inside a line. -/
def withFinalLF (t : List Byte) : List Byte :=
  if t = [] ∨ t.getLast? = some byteLF then t else t ++ [byteLF]

theorem withFinalLF_cons (b c : Byte) (t : List Byte) :
    withFinalLF (b :: c :: t) = b :: withFinalLF (c :: t) := by
  simp only [withFinalLF, List.getLast?_cons_cons, reduceCtorEq, false_or]
  split <;> rfl

theorem flatMap_splitLines (t : List Byte) :
    (splitLines t).flatMap (fun l => l ++ [byteLF]) = withFinalLF t := by
  induction t with
  | nil => simp [splitLines, withFinalLF]
  | cons b t ih =>
    by_cases hb : b = byteLF
    · subst hb
      rw [splitLines_cons_LF, List.flatMap_cons, ih]
      cases t with
      | nil => simp [withFinalLF]
      | cons c t => rw [withFinalLF_cons]; rfl
    · cases t with
      | nil => simp [splitLines_singleton_of_ne hb, withFinalLF, hb]
      | cons c t =>
        obtain ⟨l, ls, ht⟩ := List.exists_cons_of_ne_nil (splitLines_cons_ne_nil c t)
        rw [splitLines_cons_of_ne hb ht, withFinalLF_cons, ← ih, ht]
        rfl

/-! ### The lines that are forwarded -/

theorem dropTrailingCR_append_CR (l : List Byte) : dropTrailingCR (l ++ [byteCR]) = l := by
  simp [dropTrailingCR]

theorem dropTrailingCR_of_getLast?_ne {l : List Byte} (h : l.getLast? ≠ some byteCR) :
    dropTrailingCR l = l := by
  simp [dropTrailingCR, h]

theorem isSpace_iff (b : Byte) : isSpace b = true ↔ b = 0x20#8 ∨ b = 0x09#8 := by
  simp [isSpace]

theorem isBlank_iff (l : List Byte) : isBlank l = true ↔ ∀ b ∈ l, b = 0x20#8 ∨ b = 0x09#8 := by
  simp [isBlank, isSpace_iff]

/-- `%` is no space itself, so the leading spaces of a comment end before its marker. -/
theorem isComment_iff (l : List Byte) :
    isComment l = true ↔
      ∃ sp rest, l = sp ++ bytePercent :: rest ∧ ∀ b ∈ sp, b = 0x20#8 ∨ b = 0x09#8 := by
  simp only [isComment, beq_iff_eq, List.head?_eq_some_iff, ← isSpace_iff]
  constructor
  · rintro ⟨rest, hrest⟩
    refine ⟨l.takeWhile isSpace, rest, ?_, fun b hb => List.mem_takeWhile_imp hb⟩
    rw [← hrest, List.takeWhile_append_dropWhile]
  · rintro ⟨sp, rest, rfl, hsp⟩
    exact ⟨rest, List.dropWhile_append_of_pos hsp⟩

theorem isForwardable_eq_false_iff (l : List Byte) :
    isForwardable l = false ↔ isBlank l = true ∨ isComment l = true := by
  simp [isForwardable, or_iff_not_imp_left]

theorem numberedForwardable_eq_filterMap (n : Nat) (ls : List (List Byte)) :
    numberedForwardable n ls = (ls.zipIdx n).filterMap (fun p =>
      if isForwardable (dropTrailingCR p.1) then some ⟨lineNumber p.2, dropTrailingCR p.1⟩
      else none) := by
  induction ls generalizing n with
  | nil => rfl
  | cons l ls ih =>
    rw [numberedForwardable, List.zipIdx_cons, ih]
    cases h : isForwardable (dropTrailingCR l) <;> simp [h]

theorem lineNumber_of_lt {n : Nat} (h : n < 2 ^ 32) : lineNumber n = BitVec.ofNat 32 n :=
  if_pos h

/-- Settles O41, clause by clause. -/
theorem configTextLines : Obligations.ConfigTextLines := by
  intro t
  exact ⟨byteLF_notMem_of_mem_splitLines t, flatMap_splitLines t,
    numberedForwardable_eq_filterMap 1 _, fun _ hn => lineNumber_of_lt hn,
    dropTrailingCR_append_CR t, dropTrailingCR_of_getLast?_ne,
    (isForwardable_eq_false_iff t).trans (or_congr (isBlank_iff t) (isComment_iff t))⟩

end Sys2Proof.Machine
end

-- ==== Proofs: the gate of the CLI operations ====
section
/-! Which CLI operations go on in which `cli_state` (43_cli_fsm.md R173, R187, R188). The four
sending operations are `whenIdle` of what they do on an idle FSM, so its equations give their error
cases. -/

namespace Sys2Proof.Machine

theorem State.whenIdle_of_closed {s : State} (h : s.cliState = .closed) (go : State) :
    s.whenIdle go = s.raise .portClosed := by
  simp [State.whenIdle, h]

theorem State.whenIdle_of_wait {s : State} (h : s.cliState = .wait) (go : State) :
    s.whenIdle go = s.raise .cliBusy := by
  simp [State.whenIdle, h]

theorem State.whenIdle_of_idle {s : State} (h : s.cliState = .idle) (go : State) :
    s.whenIdle go = go := by
  simp [State.whenIdle, h]

theorem exec_cliSend (l : List Byte) (s : State) :
    exec (.cliSend l) s = .next (s.whenIdle
      (if validLine s.cfg l then s.startCommand .send l else s.raise .badArgument)) := rfl

theorem exec_cliSendConfig (text : List Byte) (s : State) :
    exec (.cliSendConfig text) s = .next (s.whenIdle
      (if s.cfg.maxCfgBytes < text.length then s.raise .badArgument
       else if hasLongLine s.cfg (forwardableLines text) then s.raise .badArgument
       else (s.startConfig (forwardableLines text)).respond .none)) := rfl

theorem exec_cliStart (s : State) :
    exec .cliStart s = .next (s.whenIdle (s.startCommand .start lineSensorStart)) := rfl

theorem exec_cliStop (s : State) :
    exec .cliStop s = .next (s.whenIdle (s.startCommand .stop lineSensorStop)) := rfl

theorem exec_cliClose_of_closed {s : State} (h : s.cliState = .closed) :
    exec .cliClose s = .next (s.respond .none) := by
  simp [exec, execCliClose, h]

theorem exec_cliRxByte_of_closed {s : State} (h : s.cliState = .closed) (b : Byte) :
    exec (.cliRxByte b) s = .next (s.respond .none) := by
  simp [exec, execCliRxByte, h]

theorem validLine_eq_false_iff (c : Config) (l : List Byte) :
    validLine c l = false ↔ byteLF ∈ l ∨ c.maxLine < l.length := by
  simp [validLine, or_iff_not_imp_left]

theorem exec_cliSend_of_invalid {s : State} {l : List Byte} (h : s.cliState = .idle)
    (hl : validLine s.cfg l = false) : exec (.cliSend l) s = .next (s.raise .badArgument) := by
  rw [exec_cliSend, State.whenIdle_of_idle h, hl]
  simp

/-- Settles O39, by `cli_state`. -/
theorem cliGateErrors : Obligations.CliGateErrors := by
  intro s l b
  refine ⟨fun hclosed => ?_, fun hwait => ?_, fun hidle hl => ?_⟩
  · simp only [exec_cliSend, exec_cliSendConfig, exec_cliStart, exec_cliStop,
      State.whenIdle_of_closed hclosed, exec_cliClose_of_closed hclosed,
      exec_cliRxByte_of_closed hclosed, and_self]
  · simp only [exec_cliSend, exec_cliSendConfig, exec_cliStart, exec_cliStop,
      State.whenIdle_of_wait hwait, and_self]
  · exact exec_cliSend_of_invalid hidle ((validLine_eq_false_iff _ _).2 hl)

end Sys2Proof.Machine
end

-- ==== Proofs: the time check ====
section
/-! The two time-outs of the time check (44_control.md R212, 43_cli_fsm.md R189). They are
independent: each is due by fields that the other leaves alone, and each sets an ERR bit of its own,
PROTOCOL_TIMEOUT in bit 5 and CONFIG_REJECTED in bit 9. So each is described on its own, and
`State.timeCheck` is put together from the two. -/

namespace Sys2Proof.Machine

/-! ### ERR -/

theorem getLsbD_errorBit (e : ErrorCode) (b : Nat) :
    (errorBit e).getLsbD b = decide (b = errorCode e - 1) := by
  have hfits : errorCode e - 1 < 32 := by cases e <;> decide
  rw [errorBit, ← BitVec.twoPow_eq, BitVec.getLsbD_twoPow]
  simp [hfits, eq_comm]

/-! ### The data-read time-out -/

/-- The pipeline runs and has waited longer than READ_TIMEOUT (44_control.md R212). -/
def State.readTimeoutDue (s : State) : Prop :=
  s.pipeState = .running ∧ s.lastPktTime.toNat + s.readTimeout.toNat < s.now.toNat

theorem State.readTimeoutCheck_of_due {s : State} (h : s.readTimeoutDue) :
    s.readTimeoutCheck =
      State.setErr { s with pipeState := .stopped, stopReason := .protocolTimeout }
        .protocolTimeout :=
  if_pos h

theorem State.readTimeoutCheck_of_not_due {s : State} (h : ¬s.readTimeoutDue) :
    s.readTimeoutCheck = s :=
  if_neg h

theorem State.readTimeoutCheck_frame (s : State) :
    s.readTimeoutCheck =
      { s with
        pipeState := s.readTimeoutCheck.pipeState, stopReason := s.readTimeoutCheck.stopReason
        err := s.readTimeoutCheck.err } := by
  rcases s.readTimeoutCheck_cases with ⟨-, -, h⟩ | ⟨-, h⟩ <;> rw [h]
  rfl

theorem State.getLsbD_err_readTimeoutCheck (s : State) {b : Nat} (hb : b ≠ 5) :
    s.readTimeoutCheck.err.getLsbD b = s.err.getLsbD b := by
  rcases s.readTimeoutCheck_cases with ⟨-, -, h⟩ | ⟨-, h⟩ <;> rw [h]
  simp [getLsbD_errorBit, errorCode, hb]

/-! ### The CLI time-out -/

/-- A command waits and is past its deadline (43_cli_fsm.md R189). -/
def State.cliTimeoutDue (s : State) : Prop := s.cliState = .wait ∧ s.cliDeadline < s.now.toNat

theorem State.cliTimeoutCheck_of_due {s : State} (h : s.cliTimeoutDue) :
    s.cliTimeoutCheck = s.finishWait .timedOut :=
  if_pos h

theorem State.cliTimeoutCheck_of_not_due {s : State} (h : ¬s.cliTimeoutDue) :
    s.cliTimeoutCheck = s :=
  if_neg h

theorem State.finishWait_timedOut_of_single {s : State}
    (h : s.cliJob = .send ∨ s.cliJob = .start ∨ s.cliJob = .stop) :
    s.finishWait .timedOut =
      { s with cliOutcome := .timedOut, cliResult := .fail, cliState := .idle } := by
  rcases h with h | h | h <;> simp [State.finishWait, h, State.endJob]

theorem State.finishWait_timedOut_of_config {s : State} (h : s.cliJob = .config) :
    s.finishWait .timedOut =
      State.setErr { s with cliOutcome := .timedOut, cliResult := .fail, cliState := .idle }
        .configRejected := by
  simp [State.finishWait, h, State.configStep, State.endJob]

theorem State.finishWait_timedOut_of_close {s : State} (h : s.cliJob = .close) :
    s.finishWait .timedOut =
      { s with
        cliOutcome := .timedOut, cliResult := .success, cliState := .closed, rxBuf := [] } := by
  simp [State.finishWait, h, State.closePort]

/-- A time-out sends nothing and touches the CLI state and ERR only. -/
theorem State.finishWait_timedOut_frame (s : State) :
    s.finishWait .timedOut =
      { s with
        err := (s.finishWait .timedOut).err, cliState := (s.finishWait .timedOut).cliState
        cliResult := (s.finishWait .timedOut).cliResult, cliOutcome := .timedOut
        rxBuf := (s.finishWait .timedOut).rxBuf } := by
  rcases s.finishWait_cases .timedOut with ⟨hjob, -⟩ | ⟨hjob, -⟩ | ⟨hjob, -⟩ | ⟨-, h⟩
  · rw [State.finishWait_timedOut_of_single hjob]
  · rw [State.finishWait_timedOut_of_config hjob]; rfl
  · rw [State.finishWait_timedOut_of_close hjob]
  · rw [h]

theorem State.cliTimeoutCheck_frame (s : State) :
    s.cliTimeoutCheck =
      { s with
        err := s.cliTimeoutCheck.err, cliState := s.cliTimeoutCheck.cliState
        cliResult := s.cliTimeoutCheck.cliResult, cliOutcome := s.cliTimeoutCheck.cliOutcome
        rxBuf := s.cliTimeoutCheck.rxBuf } := by
  by_cases h : s.cliTimeoutDue
  · rw [State.cliTimeoutCheck_of_due h, s.finishWait_timedOut_frame]
  · rw [State.cliTimeoutCheck_of_not_due h]

theorem State.getLsbD_err_cliTimeoutCheck (s : State) {b : Nat} (hb : b ≠ 9) :
    s.cliTimeoutCheck.err.getLsbD b = s.err.getLsbD b := by
  rcases s.cliTimeoutCheck_same.err with h | h <;> rw [h]
  simp [getLsbD_errorBit, errorCode, hb]

/-! ### Both -/

theorem State.readTimeoutDue_cliTimeoutCheck (s : State) :
    s.cliTimeoutCheck.readTimeoutDue ↔ s.readTimeoutDue := by
  have same := s.cliTimeoutCheck_same
  rw [State.readTimeoutDue, same.pipeState, same.lastPktTime, same.readTimeout, same.now,
    State.readTimeoutDue]

/-- The data-read time-out leaves the CLI as the CLI time-out made it. -/
theorem State.timeCheck_cli (s : State) :
    s.timeCheck.cliState = s.cliTimeoutCheck.cliState ∧
    s.timeCheck.cliResult = s.cliTimeoutCheck.cliResult ∧
    s.timeCheck.cliOutcome = s.cliTimeoutCheck.cliOutcome ∧
    s.timeCheck.rxBuf = s.cliTimeoutCheck.rxBuf := by
  rw [State.timeCheck, State.readTimeoutCheck_frame]
  exact ⟨rfl, rfl, rfl, rfl⟩

/-- Every ERR bit but PROTOCOL_TIMEOUT is as the CLI time-out leaves it. -/
theorem State.getLsbD_err_timeCheck (s : State) {b : Nat} (hb : b ≠ 5) :
    s.timeCheck.err.getLsbD b = s.cliTimeoutCheck.err.getLsbD b :=
  s.cliTimeoutCheck.getLsbD_err_readTimeoutCheck hb

theorem State.timeCheck_frame (s : State) :
    s.timeCheck =
      { s with
        pipeState := s.timeCheck.pipeState, stopReason := s.timeCheck.stopReason
        err := s.timeCheck.err, cliState := s.timeCheck.cliState
        cliResult := s.timeCheck.cliResult, cliOutcome := s.timeCheck.cliOutcome
        rxBuf := s.timeCheck.rxBuf } := by
  rw [State.timeCheck, State.readTimeoutCheck_frame, State.cliTimeoutCheck_frame]

/-! ### Each time-out, due and not due -/

theorem State.timeCheck_of_readTimeoutDue {s : State} (h : s.readTimeoutDue) :
    s.timeCheck.pipeState = .stopped ∧ s.timeCheck.stopReason = .protocolTimeout ∧
      s.timeCheck.err.getLsbD 5 = true := by
  rw [State.timeCheck, State.readTimeoutCheck_of_due (s.readTimeoutDue_cliTimeoutCheck.2 h)]
  exact ⟨rfl, rfl, by simp [getLsbD_errorBit, errorCode]⟩

theorem State.timeCheck_of_not_readTimeoutDue {s : State} (h : ¬s.readTimeoutDue) :
    s.timeCheck.pipeState = s.pipeState ∧ s.timeCheck.stopReason = s.stopReason ∧
      s.timeCheck.err.getLsbD 5 = s.err.getLsbD 5 := by
  rw [State.timeCheck,
    State.readTimeoutCheck_of_not_due (mt s.readTimeoutDue_cliTimeoutCheck.1 h)]
  exact ⟨s.cliTimeoutCheck_same.pipeState, s.cliTimeoutCheck_same.stopReason,
    s.getLsbD_err_cliTimeoutCheck (by decide)⟩

/-- The end of the wait of each of the five jobs. -/
theorem State.timeCheck_of_cliTimeoutDue {s : State} (h : s.cliTimeoutDue) :
    (s.cliJob = .send ∨ s.cliJob = .start ∨ s.cliJob = .stop →
      s.timeCheck.cliState = .idle ∧ s.timeCheck.cliResult = .fail ∧
        s.timeCheck.rxBuf = s.rxBuf ∧ s.timeCheck.err.getLsbD 9 = s.err.getLsbD 9) ∧
    (s.cliJob = .config →
      s.timeCheck.cliState = .idle ∧ s.timeCheck.cliResult = .fail ∧
        s.timeCheck.err.getLsbD 9 = true ∧ s.timeCheck.rxBuf = s.rxBuf) ∧
    (s.cliJob = .close →
      s.timeCheck.cliState = .closed ∧ s.timeCheck.cliResult = .success ∧
        s.timeCheck.rxBuf = [] ∧ s.timeCheck.err.getLsbD 9 = s.err.getLsbD 9) ∧
    s.timeCheck.cliOutcome = .timedOut := by
  obtain ⟨hstate, hresult, houtcome, hrx⟩ := s.timeCheck_cli
  have herr := s.getLsbD_err_timeCheck (b := 9) (by decide)
  rw [hstate, hresult, houtcome, hrx, herr, State.cliTimeoutCheck_of_due h]
  refine ⟨fun hjob => ?_, fun hjob => ?_, fun hjob => ?_, ?_⟩
  · rw [State.finishWait_timedOut_of_single hjob]
    exact ⟨rfl, rfl, rfl, rfl⟩
  · rw [State.finishWait_timedOut_of_config hjob]
    exact ⟨rfl, rfl, by simp [getLsbD_errorBit, errorCode], rfl⟩
  · rw [State.finishWait_timedOut_of_close hjob]
    exact ⟨rfl, rfl, rfl, rfl⟩
  · rw [State.finishWait_timedOut_frame]

theorem State.timeCheck_of_not_cliTimeoutDue {s : State} (h : ¬s.cliTimeoutDue) :
    s.timeCheck.cliState = s.cliState ∧ s.timeCheck.cliResult = s.cliResult ∧
      s.timeCheck.cliOutcome = s.cliOutcome ∧ s.timeCheck.rxBuf = s.rxBuf ∧
      s.timeCheck.err.getLsbD 9 = s.err.getLsbD 9 := by
  obtain ⟨hstate, hresult, houtcome, hrx⟩ := s.timeCheck_cli
  have herr := s.getLsbD_err_timeCheck (b := 9) (by decide)
  rw [State.cliTimeoutCheck_of_not_due h] at hstate hresult houtcome hrx herr
  exact ⟨hstate, hresult, houtcome, hrx, herr⟩

/-- Settles O9, each time-out due and not due, then the other ERR bits and the frame. -/
theorem timeCheckFiresDueTimeouts : Obligations.TimeCheckFiresDueTimeouts := by
  rintro s t rfl
  exact ⟨State.timeCheck_of_readTimeoutDue, State.timeCheck_of_not_readTimeoutDue,
    State.timeCheck_of_cliTimeoutDue, State.timeCheck_of_not_cliTimeoutDue,
    fun b h5 h9 => (s.getLsbD_err_timeCheck h5).trans (s.getLsbD_err_cliTimeoutCheck h9),
    s.timeCheck_frame⟩

end Sys2Proof.Machine
end

-- ==== Proofs: PIPE_STOP ====
section
/-! What a stop request does in each pipeline state (44_control.md R217). -/

namespace Sys2Proof.Machine

theorem State.requestStop_of_idle_or_running {s : State}
    (h : s.pipeState = .idle ∨ s.pipeState = .running) :
    s.requestStop = { s with pipeState := .stopped, stopReason := .stopRequested } := by
  rcases h with hidle | hrunning
  · simp only [State.requestStop, hidle]
  · simp only [State.requestStop, hrunning]

theorem State.requestStop_of_blocked {s : State} (h : s.pipeState = .publishBlocked) :
    s.requestStop = { s with stopReq := true } := by
  simp only [State.requestStop, h]

theorem State.requestStop_of_stopped {s : State} (h : s.pipeState = .stopped) :
    s.requestStop = s := by
  simp only [State.requestStop, h]

theorem exec_pipeStop (s : State) : exec .pipeStop s = .next (s.requestStop.respond .none) := rfl

/-- Settles O19, by the pipeline state. -/
theorem pipeStopOutcomes : Obligations.PipeStopOutcomes := by
  refine ⟨rfl, fun s => ?_⟩
  rw [exec_pipeStop]
  refine ⟨fun hleaves => ?_, fun hblocked => ?_, fun hstopped => ?_⟩
  · rw [State.requestStop_of_idle_or_running hleaves]
  · rw [State.requestStop_of_blocked hblocked]
  · rw [State.requestStop_of_stopped hstopped]

end Sys2Proof.Machine
end

-- ==== Proofs: PKT_IN turned away ====
section
/-! When PKT_IN takes no datagram: the pipeline is not running, or the datagram is malformed
(41_reassembly.md R111, R113, 44_control.md R220). -/

namespace Sys2Proof.Machine

theorem malformed_iff (d : List Byte) :
    malformed d = true ↔ d.length < 10 ∨ 4096 < d.length ∨ (d.length - 10) % 2 = 1 := by
  simp only [malformed, Bool.or_eq_true, decide_eq_true_eq, Nat.mod_two_ne_zero, or_assoc]
  rfl

theorem exec_pktIn_of_idle {s : State} (h : s.pipeState = .idle) (d : List Byte) :
    exec (.pktIn d) s = .next (s.raise .illegalState) := by
  simp only [exec, execPktIn, h]

theorem exec_pktIn_of_stopped {s : State} (h : s.pipeState = .stopped) (d : List Byte) :
    exec (.pktIn d) s = .next (s.raise .illegalState) := by
  simp only [exec, execPktIn, h]

theorem exec_pktIn_of_blocked {s : State} (h : s.pipeState = .publishBlocked) (d : List Byte) :
    exec (.pktIn d) s = .next s.hold := by
  simp only [exec, execPktIn, h]

theorem exec_pktIn_of_malformed {s : State} (h : s.pipeState = .running) {d : List Byte}
    (hbad : malformed d = true) :
    exec (.pktIn d) s = .next (s.stopMalformed.raise .malformedPacket) := by
  simp only [exec, execPktIn, h, hbad, if_true]

/-- Settles O22, by the pipeline state. -/
theorem pktInTurnedAway : Obligations.PktInTurnedAway := by
  refine fun s d => ⟨?_, fun hblocked => exec_pktIn_of_blocked hblocked d, fun hrunning hbad => ?_⟩
  · rintro (hidle | hstopped)
    · exact exec_pktIn_of_idle hidle d
    · exact exec_pktIn_of_stopped hstopped d
  · exact exec_pktIn_of_malformed hrunning ((malformed_iff d).2 hbad)

end Sys2Proof.Machine
end

-- ==== Proofs: decode and publish ====
section
/-! Decode and publish of one emitted frame (44_control.md R221 to R225): one equation per branch, each
under the condition that selects it. -/

namespace Sys2Proof.Machine

theorem State.publish_of_blocked {s : State} (h : s.pipeState = .publishBlocked) (f : OutFrame) :
    s.publish f = { s with holdq := s.holdq ++ [f] } := by
  simpa [h] using s.publish_cases f

theorem State.publish_of_room {s : State} (h : s.pipeState ≠ .publishBlocked)
    (hroom : s.outq.length < s.cfg.outDepth) (f : OutFrame) : s.publish f = s.enqueue f := by
  simpa [h, hroom, hroom.not_ge] using s.publish_cases f

theorem State.publish_of_full_dropOldest {s : State} (h : s.pipeState ≠ .publishBlocked)
    (hfull : s.cfg.outDepth ≤ s.outq.length) (hdrop : s.dropOldest = true) (f : OutFrame) :
    s.publish f = s.dropHead.enqueue f := by
  simpa [h, hfull, hfull.not_gt, hdrop] using s.publish_cases f

theorem State.publish_of_full_blocking {s : State} (h : s.pipeState ≠ .publishBlocked)
    (hfull : s.cfg.outDepth ≤ s.outq.length) (hblock : s.dropOldest = false) (f : OutFrame) :
    s.publish f = s.blockOn f := by
  simpa [h, hfull, hfull.not_gt, hblock] using s.publish_cases f

theorem State.pipelineOut_of_undecodable {s : State} (h : s.samplesPerFrame % 4 ≠ 0)
    (f : Nat × List Word) : s.pipelineOut f = s.setErr .invalidBlockLength := by
  simpa [h] using s.pipelineOut_cases f

theorem State.pipelineOut_of_decodable {s : State} (h : s.samplesPerFrame % 4 = 0)
    (f : Nat × List Word) : s.pipelineOut f = s.publish ⟨f.1, s.decodeFrame f.2⟩ := by
  simpa [h] using s.pipelineOut_cases f

/-- Settles O30, by whether the frame decodes, then by the state of the channel and the policy. -/
theorem publishFollowsPolicy : Obligations.PublishFollowsPolicy := by
  rintro s fid buf f rfl
  refine ⟨fun hlost => State.pipelineOut_of_undecodable hlost _, fun hdecodes => ?_⟩
  rw [State.pipelineOut_of_decodable hdecodes]
  exact ⟨fun hblocked => State.publish_of_blocked hblocked _,
    fun hopen hroom => State.publish_of_room hopen hroom _,
    fun hopen hfull hdrop => State.publish_of_full_dropOldest hopen hfull hdrop _,
    fun hopen hfull hblock => State.publish_of_full_blocking hopen hfull hblock _⟩

end Sys2Proof.Machine
end

-- ==== Proofs: FRAME_POP ====
section
/-! FRAME_POP takes the oldest frame and lets a blocked publish go on (44_control.md R218, R226, R227).
`State.drained` is what the draining loop leaves (`State.drainLoop_eq_drained`); what follows depends on
whether frames are still held and on the stop request. -/

namespace Sys2Proof.Machine

/-- The first `k` held frames have entered the channel and are counted. -/
def State.drained (s : State) (k : Nat) : State :=
  { s with
    outq := s.outq ++ s.holdq.take k
    holdq := s.holdq.drop k
    framesOutTotal := s.framesOutTotal + BitVec.ofNat 32 k }

theorem State.drainLoop_eq_drained (s : State) :
    State.drainLoop s.holdq.length s =
      s.drained (min s.holdq.length (s.cfg.outDepth - s.outq.length)) :=
  State.drainLoop_eq _ s le_rfl

theorem exec_framePop_of_empty {s : State} (h : s.outq = []) : exec .framePop s = .next s.hold := by
  simp only [exec, execFramePop, h]

theorem exec_framePop_of_cons {s : State} {f : OutFrame} {rest : List OutFrame}
    (h : s.outq = f :: rest) :
    exec .framePop s = .next ((s.takeHead rest).respond (.frame f.fid f.frame)) := by
  simp only [exec, execFramePop, h]

theorem State.takeHead_of_not_blocked {s : State} (h : s.pipeState ≠ .publishBlocked)
    (rest : List OutFrame) : s.takeHead rest = { s with outq := rest } :=
  if_neg h

theorem State.takeHead_of_blocked {s : State} (h : s.pipeState = .publishBlocked)
    (rest : List OutFrame) :
    s.takeHead rest = (State.drained { s with outq := rest }
      (min s.holdq.length (s.cfg.outDepth - rest.length))).resumeLoop := by
  rw [State.takeHead, if_pos h, State.drainHold, State.drainLoop_eq_drained]

/-- The drain of a blocked pipeline and what comes after it, in closed form. -/
theorem State.resumeLoop_drained {s : State} (hblocked : s.pipeState = .publishBlocked) (k : Nat) :
    (s.drained k).resumeLoop =
      { s with
        outq := s.outq ++ s.holdq.take k
        holdq := s.holdq.drop k
        framesOutTotal := s.framesOutTotal + BitVec.ofNat 32 k
        pipeState := if k < s.holdq.length then .publishBlocked
          else if s.stopReq then .stopped else .running
        stopReason := if k < s.holdq.length then s.stopReason
          else if s.stopReq then .stopRequested else s.stopReason
        stopReq := if k < s.holdq.length then s.stopReq else false
        lastPktTime := if k < s.holdq.length then s.lastPktTime
          else if s.stopReq then s.lastPktTime else s.now } := by
  have hempty : (s.drained k).holdq = [] ↔ ¬k < s.holdq.length := by simp [State.drained]
  rcases (s.drained k).resumeLoop_cases with ⟨hheld, h⟩ | ⟨hnone, hstop, h⟩ | ⟨hnone, hstop, h⟩ <;>
    rw [h]
  · have hleft : k < s.holdq.length := not_not.1 (mt hempty.2 hheld)
    simp only [State.drained, if_pos hleft, hblocked]
  · have hstop : s.stopReq = true := hstop
    simp only [State.drained, if_neg (hempty.1 hnone), if_pos hstop]
  · have hstop : s.stopReq = false := hstop
    simp [State.drained, hempty.1 hnone, hstop]

/-- Settles O20: an empty channel, a pipeline that is not blocked, and a drain
(`State.resumeLoop_drained`). -/
theorem framePopOutcomes : Obligations.FramePopOutcomes := by
  refine ⟨rfl, fun s => ⟨exec_framePop_of_empty, ?_, ?_⟩⟩
  · intro f rest hq hopen
    rw [exec_framePop_of_cons hq, State.takeHead_of_not_blocked hopen]
  · rintro f rest k hq hblocked rfl
    rw [exec_framePop_of_cons hq, State.takeHead_of_blocked hblocked,
      State.resumeLoop_drained (s := { s with outq := rest }) hblocked]

end Sys2Proof.Machine
end

-- ==== Proofs: registers after reset ====
section
/-! What REG_RD responds right after reset (70_reset_and_hazards.md R272). The indices 0x00 to 0x13 are
exactly the indices of the registers (`Reg.index`, the table of 10_state.md R24 read from the register to
its index), so the value of every index is a case split over the registers. -/

namespace Sys2Proof.Machine

/-- The index of a register (10_state.md R24), the inverse of `regOfIndex` (`regOfIndex_eq_some_iff`). -/
def Reg.index : Reg → BitVec 8
  | .id => 0x00#8
  | .status => 0x01#8
  | .err => 0x02#8
  | .ctrl => 0x03#8
  | .numTx => 0x04#8
  | .numRx => 0x05#8
  | .numAdc => 0x06#8
  | .numLoops => 0x07#8
  | .framePeriod => 0x08#8
  | .cliTimeout => 0x09#8
  | .readTimeout => 0x0A#8
  | .spf => 0x0B#8
  | .pending => 0x0C#8
  | .outLevel => 0x0D#8
  | .lastSeq => 0x0E#8
  | .evictTotal => 0x0F#8
  | .outDropTotal => 0x10#8
  | .discardTotal => 0x11#8
  | .framesOutTotal => 0x12#8
  | .cliCfgLine => 0x13#8

@[simp] theorem regOfIndex_index (r : Reg) : regOfIndex r.index = some r := by
  cases r <;> rfl

theorem regOfIndex_eq_some_iff {i : BitVec 8} {r : Reg} : regOfIndex i = some r ↔ i = r.index := by
  constructor
  · intro h
    unfold regOfIndex at h
    split at h <;> cases h
    all_goals exact BitVec.eq_of_toNat_eq ‹_›
  · rintro rfl
    exact regOfIndex_index r

/-- The indices 0x00 to 0x13 leave no gap. -/
theorem exists_regOfIndex_eq_some {i : BitVec 8} (h : i.toNat ≤ 0x13) :
    ∃ r, regOfIndex i = some r := by
  unfold regOfIndex
  interval_cases i.toNat <;> exact ⟨_, rfl⟩

theorem exec_regRd_index (r : Reg) (s : State) :
    exec (.regRd r.index) s = .next (s.respond (.u32 (s.readReg r))) := by
  simp only [exec, execRegRd, regOfIndex_index]

/-- Every field of STATUS takes its code 0 at reset (10_state.md R32). -/
@[simp] theorem State.statusWord_resetWith (c : Config) : (State.resetWith c).statusWord = 0#32 := by
  simp [State.statusWord, State.resetWith, pipeStateField, stopReasonField, cliStateField, cliJobField,
    cliOutcomeField, cliResultField]

/-- The four registers that do not read 0 after reset are ID, CTRL, CLI_TIMEOUT and READ_TIMEOUT. -/
theorem State.readReg_resetWith (c : Config) (r : Reg) :
    (State.resetWith c).readReg r =
      if r.index = 0x00#8 then 0x52444946#32
      else if r.index = 0x03#8 then 0x00000001#32
      else if r.index = 0x09#8 then BitVec.ofNat 32 (min (2 * c.ticksPerSecond) 0xFFFFFFFF)
      else if r.index = 0x0A#8 then BitVec.ofNat 32 (min c.ticksPerSecond 0xFFFFFFFF)
      else 0#32 := by
  cases r
  case status => exact State.statusWord_resetWith c
  all_goals rfl

/-- Settles O11: an index up to 0x13 is that of a register, and the register is read as reset left it. -/
theorem resetRegistersRead : Obligations.ResetRegistersRead := by
  intro c i hi
  obtain ⟨r, hr⟩ := exists_regOfIndex_eq_some hi
  obtain rfl := regOfIndex_eq_some_iff.1 hr
  rw [exec_regRd_index, State.readReg_resetWith]

end Sys2Proof.Machine
end

-- ==== Proofs: encoding and decoding ====
section
/-! The command-word format (30_encoding.md R81, R82, R85). A command word with its reserved bits clear is
the one built from its OP and REG fields, so everything about `decode` is about those two fields and the
argument. -/

namespace Sys2Proof.Machine

open Sys2Proof.Laws

/-! ### The fields of a command word -/

/-- With the reserved bits clear, the OP and REG fields are all there is. -/
theorem commandWord_of_reservedClear {cmd : U32} (hhigh : cmd.extractLsb' 16 16 = 0#16)
    (hmid : cmd.extractLsb' 5 3 = 0#3) :
    commandWord (cmd.extractLsb' 0 5) (cmd.extractLsb' 8 8) = cmd := by
  have hmidBit : ∀ i, 5 ≤ i → i < 8 → cmd.getLsbD i = false := by
    intro i hi hi'
    have := congrArg (fun x => x.getLsbD (i - 5)) hmid
    simpa [show i - 5 < 3 by omega, show 5 + (i - 5) = i by omega] using this
  have hhighBit : ∀ i, 16 ≤ i → i < 32 → cmd.getLsbD i = false := by
    intro i hi hi'
    have := congrArg (fun x => x.getLsbD (i - 16)) hhigh
    simpa [show i - 16 < 16 by omega, show 16 + (i - 16) = i by omega] using this
  refine BitVec.eq_of_getLsbD_eq fun i hi => ?_
  rw [commandWord_getLsbD]
  simp only [BitVec.getLsbD_extractLsb', Nat.zero_add]
  split
  · next hlow =>
    by_cases hop : i < 5
    · simp [hop]
    · simp [hop, hmidBit i (by omega) hlow]
  · next hlow =>
    by_cases hreg : i < 16
    · simp [show i - 8 < 8 by omega, show 8 + (i - 8) = i by omega]
    · simp [show ¬i - 8 < 8 by omega, hhighBit i (by omega) hi]

/-! ### What decodes -/

/-- The four checks of `decode`, passed. -/
theorem decode_eq_ok_iff {cmd : U32} {arg : Arg} {i : Instr} :
    decode cmd arg = .ok i ↔
      (cmd.extractLsb' 16 16 = 0#16 ∧ cmd.extractLsb' 5 3 = 0#3) ∧
      (cmd.extractLsb' 0 5).toNat < 0x13 ∧
      (hasRegField (cmd.extractLsb' 0 5).toNat = true ∨ cmd.extractLsb' 8 8 = 0#8) ∧
      instrOf (cmd.extractLsb' 0 5).toNat (cmd.extractLsb' 8 8) arg = some i := by
  unfold decode
  generalize (cmd.extractLsb' 0 5).toNat = op, cmd.extractLsb' 8 8 = reg
  dsimp only
  split
  · next h => simp [not_and_or.2 h]
  · next h =>
    split
    · next hop => simp [hop]
    · next hop =>
      split
      · next hreg => simp [hreg]
      · next hreg =>
        rw [not_or, not_not, not_not] at h
        rw [not_and_or, Bool.not_eq_false, not_not] at hreg
        cases instrOf op reg arg <;> simp [h, Nat.lt_of_not_le hop, hreg]

theorem decode_commandWord {op : BitVec 5} {reg : BitVec 8} {arg : Arg} {i : Instr}
    (hop : op.toNat < 0x13) (hreg : hasRegField op.toNat = true ∨ reg = 0#8)
    (hinstr : instrOf op.toNat reg arg = some i) : decode (commandWord op reg) arg = .ok i := by
  obtain ⟨hfieldOp, hfieldReg, hhigh, hmid⟩ := commandWord_fields op reg
  rw [decode_eq_ok_iff, hfieldOp, hfieldReg]
  exact ⟨⟨hhigh, hmid⟩, hop, hreg, hinstr⟩

/-- Settles O1: the encoder builds a command word that passes the four checks, operation by operation. -/
theorem decodeInvertsEncode : Obligations.DecodeInvertsEncode := by
  intro i
  cases i with
  | regRd reg | regWr reg v => exact decode_commandWord (by decide) (.inl rfl) rfl
  | _ => exact decode_commandWord (by decide) (.inr rfl) rfl

/-- Each line of the opcode map is read by the decoder as the encoder writes it. -/
theorem encode_of_instrOf {op : BitVec 5} {reg : BitVec 8} {arg : Arg} {i : Instr}
    (hinstr : instrOf op.toNat reg arg = some i)
    (hreg : hasRegField op.toNat = true ∨ reg = 0#8) : encode i = (commandWord op reg, arg) := by
  generalize hn : op.toNat = n at hinstr hreg
  have hop : op = BitVec.ofNat 5 n := by rw [← hn, BitVec.ofNat_toNat, BitVec.setWidth_eq]
  subst hop
  -- one goal per line of the map; in all but two of them `hreg` says that REG is 0
  cases arg <;> simp only [instrOf, instrOfNone, instrOfU32, instrOfBytes, instrOfWords] at hinstr <;>
    split at hinstr <;> cases hinstr
  all_goals simp_all [encode, hasRegField]

/-- Settles O2: a word that passes the checks is rebuilt from its fields, and the fields are those of the
operation's line of the opcode map. -/
theorem decodeOnlyOfEncoded : Obligations.DecodeOnlyOfEncoded := by
  intro cmd arg i h
  obtain ⟨⟨hhigh, hmid⟩, -, hreg, hinstr⟩ := decode_eq_ok_iff.1 h
  rw [encode_of_instrOf hinstr hreg, commandWord_of_reservedClear hhigh hmid]

/-! ### The four checks -/

theorem reservedClear_iff (o : Operation) :
    o.reservedClear = true ↔ o.cmd.extractLsb' 16 16 = 0#16 ∧ o.cmd.extractLsb' 5 3 = 0#3 := by
  simp [Operation.reservedClear]

theorem opAssigned_iff (o : Operation) : o.opAssigned = true ↔ o.opField.toNat < 0x13 := by
  have hmap : ∀ op : BitVec 5, (opRow op).isSome = true ↔ op.toNat < 0x13 := by decide
  exact hmap o.opField

theorem regAllowed_iff (o : Operation) :
    o.regAllowed = true ↔ hasRegField o.opField.toNat = true ∨ o.regField = 0#8 := by
  have hmap : ∀ op : BitVec 5, (opRow op).any (fun r => r.hasReg) = hasRegField op.toNat := by decide
  simp [Operation.regAllowed, hmap]

theorem argMatches_iff (o : Operation) :
    o.argMatches = true ↔ (instrOf o.opField.toNat o.regField o.arg).isSome = true := by
  have hmap : ∀ (arg : Arg) (reg : BitVec 8) (op : BitVec 5),
      (opRow op).any (fun r => r.arg == arg.kind) = true ↔
        (instrOf op.toNat reg arg).isSome = true := by
    intro arg reg
    cases arg <;> exact of_decide_eq_true rfl
  exact hmap o.arg o.regField o.opField

/-- The decoder makes the checks of `Operation.wellFormed`, in their order. -/
theorem decode_eq_checks (o : Operation) :
    decode o.cmd o.arg =
      if o.reservedClear = false then .error .reservedBits
      else if o.opAssigned = false then .error .reservedOp
      else if o.regAllowed = false then .error .strayReg
      else (instrOf o.opField.toNat o.regField o.arg).elim (.error .wrongArgument) .ok := by
  have hres := reservedClear_iff o
  have hop := opAssigned_iff o
  have hreg := regAllowed_iff o
  unfold decode
  simp only [← Bool.not_eq_true, hres, hop, hreg, not_and_or, not_or, Nat.not_lt]
  simp only [Operation.opField, Operation.regField]
  cases instrOf (o.cmd.extractLsb' 0 5).toNat (o.cmd.extractLsb' 8 8) o.arg <;> rfl

/-- Settles O3: one branch of `decode_eq_checks` for each clause. -/
theorem decodeFollowsCheckOrder : Obligations.DecodeFollowsCheckOrder := by
  intro o
  rw [decode_eq_checks]
  refine ⟨fun hres => by simp [hres], fun hres hop => by simp [hres, hop],
    fun hres hop hreg => by simp [hres, hop, hreg], fun hres hop hreg harg => ?_, fun hwf => ?_,
    rfl, rfl, rfl, rfl⟩
  · have hnone : instrOf o.opField.toNat o.regField o.arg = none := by
      rw [← Option.not_isSome_iff_eq_none, ← argMatches_iff, harg]
      simp
    simp [hres, hop, hreg, hnone]
  · simp only [Operation.wellFormed, Bool.and_eq_true] at hwf
    obtain ⟨⟨⟨hres, hop⟩, hreg⟩, harg⟩ := hwf
    obtain ⟨i, hi⟩ := Option.isSome_iff_exists.1 ((argMatches_iff o).1 harg)
    exact ⟨i, by simp [hres, hop, hreg, hi]⟩

/-- Settles O4. -/
theorem writtenWordsDecode : Obligations.WrittenWordsDecode :=
  ⟨rfl, rfl, rfl, rfl, rfl, rfl, rfl, rfl⟩

end Sys2Proof.Machine
end

-- ==== Proofs: what an operation does ====
section
/-! Once for all operations, what `exec` can do (`exec_case`): it answers HOLD or ERR and does nothing else,
or it answers OK after a change of the pipeline side (`PipelineEffect`) or of the CLI side (`CliEffect`).
No change of one side touches the other (`PipelineEffect.sameCli`, `CliEffect.samePipeline`), so a later
proof looks only at the changes of its own side. -/

namespace Sys2Proof.Machine

/-! ### PKT_IN of a well-formed datagram, in two parts -/

/-- After the walk of a datagram, before any frame goes out (41_reassembly.md R111, R114). -/
def State.walked (s : State) (d : List Byte) : State :=
  (s.noteDatagram d).afterWalk (s.datagramWalk d)

/-- With a frame completed: the policy's count and the eviction pass, made before the frames go out
(41_reassembly.md R117, R118). -/
def State.emitting (s : State) (d : List Byte) : State :=
  ((s.walked d).countDiscards (s.datagramWalk d).completed).evictStale (2 * s.framePeriod.toNat)

theorem State.walked_eq (s : State) (d : List Byte) :
    s.walked d =
      { s with
        lastSeq := BitVec.ofInt 32 (packetSeq d)
        lastPktTime := s.now
        pending := (s.datagramWalk d).pending
        err := if (s.datagramWalk d).overflow then s.err ||| errorBit .pendingOverflow else s.err } := by
  rcases (s.noteDatagram d).afterWalk_cases (s.datagramWalk d) with ⟨hover, h⟩ | ⟨hover, h⟩ <;>
    rw [State.walked, h, hover] <;> rfl

/-- The policy is that of CTRL, which the walk leaves alone. -/
theorem State.emitting_eq (s : State) (d : List Byte) :
    s.emitting d =
      { s with
        lastSeq := BitVec.ofInt 32 (packetSeq d)
        lastPktTime := s.now
        pending := (s.datagramWalk d).pending.filter
          (fun q => !isStale s.now (2 * s.framePeriod.toNat) q.2)
        err := if (s.datagramWalk d).overflow then s.err ||| errorBit .pendingOverflow else s.err
        discardTotal := if s.complAll then s.discardTotal
          else s.discardTotal + BitVec.ofNat 32 ((s.datagramWalk d).completed.length - 1)
        evictTotal := s.evictTotal + BitVec.ofNat 32
          (staleIds s.now (2 * s.framePeriod.toNat) (s.datagramWalk d).pending).length } := by
  have hpolicy : (s.walked d).complAll = s.complAll := by rw [State.walked_eq]; rfl
  rcases (s.walked d).countDiscards_cases (s.datagramWalk d).completed with ⟨hall, h⟩ | ⟨hall, h⟩ <;>
    rw [State.emitting, h, ← hpolicy, hall, State.walked_eq] <;> rfl

theorem State.takeDatagram_of_none {s : State} {d : List Byte}
    (h : (s.datagramWalk d).completed = []) :
    s.takeDatagram d = (s.walked d).respond (.packet [] []) :=
  if_pos h

theorem State.takeDatagram_of_completed {s : State} {d : List Byte}
    (h : (s.datagramWalk d).completed ≠ []) :
    s.takeDatagram d =
      ((s.emittedOf (s.datagramWalk d).completed).foldl State.pipelineOut (s.emitting d)).respond
        (.packet ((s.emittedOf (s.datagramWalk d).completed).map Prod.fst)
          (staleIds s.now (2 * s.framePeriod.toNat) (s.datagramWalk d).pending)) := by
  have htake : s.takeDatagram d = (((s.walked d).emittedOf (s.datagramWalk d).completed).foldl
      State.pipelineOut (((s.walked d).countDiscards (s.datagramWalk d).completed).evictStale
        (2 * (s.walked d).framePeriod.toNat))).respond
      (.packet (((s.walked d).emittedOf (s.datagramWalk d).completed).map Prod.fst)
        (staleIds (s.walked d).now (2 * (s.walked d).framePeriod.toNat) (s.walked d).pending)) :=
    if_neg h
  rw [htake, State.emitting, State.walked_eq]
  rfl

theorem exec_pktIn_of_running {s : State} (h : s.pipeState = .running) {d : List Byte}
    (hgood : malformed d = false) : exec (.pktIn d) s = .next (s.takeDatagram d) := by
  simp [exec, execPktIn, h, hgood]

/-! ### The changes an operation makes before its OK response -/

/-- A change of the pipeline side: of the registers, the channel, the store or the pipeline state. -/
inductive PipelineEffect (s : State) : Instr → State → Prop
  | unchanged {i : Instr} : PipelineEffect s i s
  | written {reg : BitVec 8} {r : Reg} (v : U32) (hreg : regOfIndex reg = some r)
      (hlock : regAccess r = .lock → s.pipeState = .idle) :
      PipelineEffect s (.regWr reg v) (s.writeReg r v)
  | launched (hidle : s.pipeState = .idle) (hgeometry : s.geometryValid = true) :
      PipelineEffect s .pipeStart s.launch
  | stopAsked : PipelineEffect s .pipeStop s.requestStop
  | popped {f : OutFrame} {rest : List OutFrame} (hq : s.outq = f :: rest) :
      PipelineEffect s .framePop (s.takeHead rest)
  | walked {d : List Byte} (hrunning : s.pipeState = .running) :
      PipelineEffect s (.pktIn d) (s.walked d)
  | emitted {d : List Byte} (hrunning : s.pipeState = .running) :
      PipelineEffect s (.pktIn d)
        ((s.emittedOf (s.datagramWalk d).completed).foldl State.pipelineOut (s.emitting d))
  | evicted (timeout : U32) : PipelineEffect s (.evict timeout) (s.evictStale timeout.toNat)

/-- The job and the line of an operation that sends one command (43_cli_fsm.md R178, R184 to R186). -/
def commandOf : Instr → Option (CliJob × List Byte)
  | .cliSend line => some (.send, line)
  | .cliStart => some (.start, lineSensorStart)
  | .cliStop => some (.stop, lineSensorStop)
  | .cliClose => some (.close, lineSensorStop)
  | _ => none

theorem job_of_commandOf {i : Instr} {j : CliJob} {line : List Byte}
    (h : commandOf i = some (j, line)) : j ≠ .none ∧ j ≠ .config := by
  cases i <;> simp [commandOf] at h <;> simp [← h.1]

/-- A change of the CLI side. -/
inductive CliEffect (s : State) : Instr → State → Prop
  | sent {i : Instr} {j : CliJob} {line : List Byte} (hcommand : commandOf i = some (j, line))
      (hopen : s.cliState ≠ .closed) : CliEffect s i ((s.beginJob j).sendLine line)
  | configured {text : List Byte} (hidle : s.cliState = .idle) :
      CliEffect s (.cliSendConfig text) (s.startConfig (forwardableLines text))
  | lineEnded (hopen : s.cliState ≠ .closed) : CliEffect s (.cliRxByte byteLF) s.completeLine
  | received {b : Byte} (hopen : s.cliState ≠ .closed) (hchar : b.toNat < 0x80 ∧ b ≠ byteLF) :
      CliEffect s (.cliRxByte b) (s.storeChar b)

/-- Everything an operation can do. -/
inductive ExecCase (s : State) : Instr → State → Prop
  | pipeline {i : Instr} {u : State} (d : RespData) (h : PipelineEffect s i u) :
      ExecCase s i (u.respond d)
  | cli {i : Instr} {u : State} (h : CliEffect s i u) : ExecCase s i (u.respond .none)
  | held {i : Instr} : ExecCase s i s.hold
  | raised {i : Instr} (e : ErrorCode) : ExecCase s i (s.raise e)
  | stoppedMalformed {d : List Byte} (hrunning : s.pipeState = .running)
      (hbad : malformed d = true) :
      ExecCase s (.pktIn d) (s.stopMalformed.raise .malformedPacket)

/-- The gate of the sending operations turns the operation away or lets it go on. -/
theorem ExecCase.whenIdle {s go : State} {i : Instr} (hgo : s.cliState = .idle → ExecCase s i go) :
    ExecCase s i (s.whenIdle go) := by
  rcases s.whenIdle_cases go with ⟨-, h⟩ | ⟨-, h⟩ | ⟨hidle, h⟩ <;> rw [h]
  · exact .raised _
  · exact .raised _
  · exact hgo hidle

/-- Settles O37, by the operation and its checks (42_rdif_decoder.md R140). -/
theorem decoderOperationsPure : Obligations.DecoderOperationsPure := by
  rintro s t w i (rfl | rfl | rfl | rfl) h
  · simp only [exec, execUnswizzle] at h
    split_ifs at h <;> cases h
    · exact .inr ⟨_, rfl⟩
    · exact .inr ⟨_, rfl⟩
    · exact .inl ⟨_, rfl⟩
  · simp only [exec, execReshape] at h
    split_ifs at h <;> cases h
    · exact .inr ⟨_, rfl⟩
    · exact .inr ⟨_, rfl⟩
    · exact .inr ⟨_, rfl⟩
    · exact .inl ⟨_, rfl⟩
  · simp only [exec, execSignconv] at h
    split_ifs at h <;> cases h
    · exact .inr ⟨_, rfl⟩
    · exact .inr ⟨_, rfl⟩
    · exact .inl ⟨_, rfl⟩
  · simp only [exec, execDecodeFrame] at h
    split_ifs at h <;> cases h
    · exact .inr ⟨_, rfl⟩
    · exact .inr ⟨_, rfl⟩
    · exact .inr ⟨_, rfl⟩
    · exact .inr ⟨_, rfl⟩
    · exact .inl ⟨_, rfl⟩

theorem ExecCase.decoder {s t : State} {i : Instr}
    (h : (∃ out, t = s.respond (.words out)) ∨ ∃ e, t = s.raise e) : ExecCase s i t := by
  rcases h with ⟨out, rfl⟩ | ⟨e, rfl⟩
  · exact .pipeline _ .unchanged
  · exact .raised e

theorem ExecCase.pktIn {s t : State} {d : List Byte} (h : exec (.pktIn d) s = .next t) :
    ExecCase s (.pktIn d) t := by
  cases hp : s.pipeState with
  | idle => rw [exec_pktIn_of_idle hp] at h; cases h; exact .raised _
  | stopped => rw [exec_pktIn_of_stopped hp] at h; cases h; exact .raised _
  | publishBlocked => rw [exec_pktIn_of_blocked hp] at h; cases h; exact .held
  | running =>
    cases hbad : malformed d with
    | true => rw [exec_pktIn_of_malformed hp hbad] at h; cases h; exact .stoppedMalformed hp hbad
    | false =>
      rw [exec_pktIn_of_running hp hbad] at h
      by_cases hnone : (s.datagramWalk d).completed = []
      · rw [State.takeDatagram_of_none hnone] at h; cases h; exact .pipeline _ (.walked hp)
      · rw [State.takeDatagram_of_completed hnone] at h; cases h; exact .pipeline _ (.emitted hp)

theorem ExecCase.regWr {s t : State} {reg : BitVec 8} {v : U32}
    (h : exec (.regWr reg v) s = .next t) : ExecCase s (.regWr reg v) t := by
  simp only [exec, execRegWr] at h
  split at h
  · cases h; exact .raised _
  · next r hr =>
    split_ifs at h with hro hlock <;> cases h
    · exact .raised _
    · exact .raised _
    · exact .pipeline _ (.written v hr fun hl => not_not.1 fun hne => hlock ⟨hl, hne⟩)

theorem ExecCase.pipeStart {s t : State} (h : exec .pipeStart s = .next t) :
    ExecCase s .pipeStart t := by
  simp only [exec, execPipeStart] at h
  split at h
  · cases h; exact .pipeline _ .unchanged
  · cases h; exact .pipeline _ .unchanged
  · cases h; exact .raised _
  · next hidle =>
    split_ifs at h with hgeometry <;> cases h
    · exact .pipeline _ (.launched hidle hgeometry)
    · exact .raised _

theorem ExecCase.cliRxByte {s t : State} {b : Byte} (h : exec (.cliRxByte b) s = .next t) :
    ExecCase s (.cliRxByte b) t := by
  simp only [exec, execCliRxByte] at h
  split_ifs at h with hclosed hlf hhigh <;> cases h
  · exact .pipeline _ .unchanged
  · rw [hlf]; exact .cli (.lineEnded hclosed)
  · exact .pipeline _ .unchanged
  · exact .cli (.received hclosed ⟨Nat.lt_of_not_le hhigh, hlf⟩)

/-- What `exec` can do, operation by operation. -/
theorem exec_case {i : Instr} {s t : State} (h : exec i s = .next t) : ExecCase s i t := by
  cases i
  case pktIn => exact .pktIn h
  case regWr => exact .regWr h
  case pipeStart => exact .pipeStart h
  case cliRxByte => exact .cliRxByte h
  case nop | tick => cases h; exact .pipeline _ .unchanged
  case pipeStop => cases h; exact .pipeline _ .stopAsked
  case evict timeout => cases h; exact .pipeline _ (.evicted timeout)
  case regRd =>
    simp only [exec, execRegRd] at h
    split at h <;> cases h
    · exact .raised _
    · exact .pipeline _ .unchanged
  case framePop =>
    simp only [exec, execFramePop] at h
    split at h <;> cases h
    · exact .held
    · next hq => exact .pipeline _ (.popped hq)
  case unswizzle w => exact .decoder (decoderOperationsPure s t w _ (.inl rfl) h)
  case reshape w => exact .decoder (decoderOperationsPure s t w _ (.inr (.inl rfl)) h)
  case signconv w => exact .decoder (decoderOperationsPure s t w _ (.inr (.inr (.inl rfl))) h)
  case decodeFrame w => exact .decoder (decoderOperationsPure s t w _ (.inr (.inr (.inr rfl))) h)
  case cliSend =>
    rw [exec_cliSend] at h
    cases h
    refine .whenIdle fun hidle => ?_
    split
    · exact .cli (.sent rfl (by simp [hidle]))
    · exact .raised _
  case cliSendConfig =>
    rw [exec_cliSendConfig] at h
    cases h
    refine .whenIdle fun hidle => ?_
    split_ifs
    · exact .raised _
    · exact .raised _
    · exact .cli (.configured hidle)
  case cliStart => cases h; exact .whenIdle fun hidle => .cli (.sent rfl (by simp [hidle]))
  case cliStop => cases h; exact .whenIdle fun hidle => .cli (.sent rfl (by simp [hidle]))
  case cliClose =>
    simp only [exec, execCliClose] at h
    split_ifs at h with hclosed <;> cases h
    · exact .pipeline _ .unchanged
    · exact .cli (.sent rfl hclosed)

/-! ### What each side leaves alone -/

/-- The ports and the CLI side are the same. -/
structure SameCli (s t : State) : Prop where
  cfg : t.cfg = s.cfg
  input : t.input = s.input
  now : t.now = s.now
  responses : t.responses = s.responses
  tx : t.tx = s.tx
  cliState : t.cliState = s.cliState
  cliJob : t.cliJob = s.cliJob
  cliOutcome : t.cliOutcome = s.cliOutcome
  cliResult : t.cliResult = s.cliResult
  cliDeadline : t.cliDeadline = s.cliDeadline
  rxBuf : t.rxBuf = s.rxBuf
  cfgLines : t.cfgLines = s.cfgLines
  cfgIdx : t.cfgIdx = s.cfgIdx

theorem SameCli.refl (s : State) : SameCli s s :=
  ⟨rfl, rfl, rfl, rfl, rfl, rfl, rfl, rfl, rfl, rfl, rfl, rfl, rfl⟩

theorem State.requestStop_cases (s : State) :
    ((s.pipeState = .idle ∨ s.pipeState = .running) ∧
      s.requestStop = { s with pipeState := .stopped, stopReason := .stopRequested }) ∨
    (s.pipeState = .publishBlocked ∧ s.requestStop = { s with stopReq := true }) ∨
    (s.pipeState = .stopped ∧ s.requestStop = s) := by
  have hstate : (s.pipeState = .idle ∨ s.pipeState = .running) ∨ s.pipeState = .publishBlocked ∨
      s.pipeState = .stopped := by
    cases s.pipeState <;> simp
  exact hstate.imp (fun h => ⟨h, State.requestStop_of_idle_or_running h⟩)
    (Or.imp (fun h => ⟨h, State.requestStop_of_blocked h⟩)
      fun h => ⟨h, State.requestStop_of_stopped h⟩)

theorem State.takeHead_cases (s : State) (rest : List OutFrame) :
    (s.pipeState ≠ .publishBlocked ∧ s.takeHead rest = { s with outq := rest }) ∨
    (s.pipeState = .publishBlocked ∧
      s.takeHead rest = (State.drained { s with outq := rest }
        (min s.holdq.length (s.cfg.outDepth - rest.length))).resumeLoop) := by
  by_cases h : s.pipeState = .publishBlocked
  · exact .inr ⟨h, State.takeHead_of_blocked h rest⟩
  · exact .inl ⟨h, State.takeHead_of_not_blocked h rest⟩

theorem PipelineEffect.sameCli {s u : State} {i : Instr} (h : PipelineEffect s i u) :
    SameCli s u := by
  cases h with
  | unchanged => exact .refl s
  | @written reg r v => cases r <;> exact { SameCli.refl s with }
  | launched => exact { SameCli.refl s with }
  | stopAsked =>
    rcases s.requestStop_cases with ⟨-, h⟩ | ⟨-, h⟩ | ⟨-, h⟩ <;> rw [h] <;>
      exact { SameCli.refl s with }
  | @popped f rest =>
    rcases s.takeHead_cases rest with ⟨-, h⟩ | ⟨hblocked, h⟩ <;> rw [h]
    · exact { SameCli.refl s with }
    · rw [State.resumeLoop_drained (s := { s with outq := rest }) hblocked]
      exact { SameCli.refl s with }
  | walked => rw [State.walked_eq]; exact { SameCli.refl s with }
  | @emitted d =>
    have hout := State.pipelineOut_foldl_same (s.emittedOf (s.datagramWalk d).completed)
      (s.emitting d)
    rw [State.emitting_eq] at hout ⊢
    exact { hout with }
  | evicted => exact { SameCli.refl s with }

/-- The ports and the pipeline side are the same, but that ERR may gain bits and the transmit port
bytes. -/
structure SamePipeline (s t : State) : Prop where
  cfg : t.cfg = s.cfg
  input : t.input = s.input
  now : t.now = s.now
  responses : t.responses = s.responses
  ctrl : t.ctrl = s.ctrl
  numTx : t.numTx = s.numTx
  numRx : t.numRx = s.numRx
  numAdc : t.numAdc = s.numAdc
  numLoops : t.numLoops = s.numLoops
  framePeriod : t.framePeriod = s.framePeriod
  readTimeout : t.readTimeout = s.readTimeout
  pipeState : t.pipeState = s.pipeState
  stopReason : t.stopReason = s.stopReason
  stopReq : t.stopReq = s.stopReq
  lastPktTime : t.lastPktTime = s.lastPktTime
  outq : t.outq = s.outq
  holdq : t.holdq = s.holdq
  pending : t.pending = s.pending
  err : t.err = s.err ∨ ∃ e, t.err = s.err ||| errorBit e
  tx : ∃ b, t.tx = s.tx ++ b

theorem SamePipeline.refl (s : State) : SamePipeline s s :=
  ⟨rfl, rfl, rfl, rfl, rfl, rfl, rfl, rfl, rfl, rfl, rfl, rfl, rfl, rfl, rfl, rfl, rfl, rfl, .inl rfl,
    [], by simp⟩

theorem SameButCli.samePipeline {s t : State} (h : SameButCli s t) : SamePipeline s t :=
  { h with err := h.err.imp id fun herr => ⟨_, herr⟩ }

/-- An LF empties `rx_buf`, and ends a wait on a keyword line (43_cli_fsm.md R190, R191). -/
theorem State.completeLine_cases (s : State) :
    (s.cliState = .wait ∧ matchLine s.rxBuf ≠ .none ∧
      s.completeLine = State.finishWait { s with rxBuf := [] } (matchLine s.rxBuf)) ∨
    (¬(s.cliState = .wait ∧ matchLine s.rxBuf ≠ .none) ∧ s.completeLine = { s with rxBuf := [] }) := by
  by_cases h : s.cliState = .wait ∧ matchLine s.rxBuf ≠ .none
  · exact .inl ⟨h.1, h.2, if_pos h⟩
  · exact .inr ⟨h, if_neg h⟩

theorem State.storeChar_cases (s : State) (b : Byte) :
    (s.rxBuf.length < s.cfg.maxLine ∧ s.storeChar b = { s with rxBuf := s.rxBuf ++ [b] }) ∨
    (s.cfg.maxLine ≤ s.rxBuf.length ∧ s.storeChar b = s.setErr .lineOverflow) := by
  by_cases h : s.rxBuf.length < s.cfg.maxLine
  · exact .inl ⟨h, if_pos h⟩
  · exact .inr ⟨Nat.le_of_not_lt h, if_neg h⟩

theorem CliEffect.samePipeline {s u : State} {i : Instr} (h : CliEffect s i u) :
    SamePipeline s u := by
  cases h with
  | @sent _ _ line => exact { SamePipeline.refl s with tx := ⟨line ++ [byteLF], rfl⟩ }
  | @configured text =>
    cases forwardableLines text with
    | nil => exact { SamePipeline.refl s with }
    | cons l ls => exact { SamePipeline.refl s with tx := ⟨l.bytes ++ [byteLF], rfl⟩ }
  | lineEnded =>
    rcases s.completeLine_cases with ⟨-, -, h⟩ | ⟨-, h⟩ <;> rw [h]
    · exact { (State.finishWait_same { s with rxBuf := [] } _).samePipeline with }
    · exact { SamePipeline.refl s with }
  | @received b =>
    rcases s.storeChar_cases b with ⟨-, h⟩ | ⟨-, h⟩ <;> rw [h]
    · exact { SamePipeline.refl s with }
    · exact { SamePipeline.refl s with err := .inr ⟨.lineOverflow, rfl⟩ }

/-! ### The response -/

/-- Settles O8: the response is the one of the case of `exec_case`, and neither side of the state touches
the ports. -/
theorem everyOperationRespondsOnce : Obligations.EveryOperationRespondsOnce := by
  intro i s
  obtain ⟨t, ht⟩ := exec_next i s
  refine ⟨t, ?_⟩
  cases exec_case ht with
  | pipeline d h =>
    have same := h.sameCli
    exact ⟨okResponse d, ht, by simp [same.responses], by simp [okResponse], by simp [okResponse],
      by simp [okResponse], same.input, same.now, same.cfg, [], by simp [same.tx]⟩
  | cli h =>
    have same := h.samePipeline
    exact ⟨okResponse .none, ht, by simp [same.responses], by simp [okResponse], by simp [okResponse],
      by simp [okResponse], same.input, same.now, same.cfg, same.tx⟩
  | held =>
    exact ⟨holdResponse, ht, rfl, by simp [holdResponse], by simp [holdResponse],
      by simp [holdResponse], rfl, rfl, rfl, [], by simp⟩
  | raised e =>
    exact ⟨errResponse e, ht, rfl, by simp [errResponse], by simp [errResponse],
      fun _ => ⟨rfl, e, rfl⟩, rfl, rfl, rfl, [], by simp⟩
  | stoppedMalformed =>
    exact ⟨errResponse .malformedPacket, ht, rfl, by simp [errResponse], by simp [errResponse],
      fun _ => ⟨rfl, _, rfl⟩, rfl, rfl, rfl, [], by simp [State.stopMalformed]⟩

/-- Settles O51: an ERR or HOLD response comes from a case that does nothing else, but for the pipeline
stop of a malformed datagram. -/
theorem errorsArePrecise : Obligations.ErrorsArePrecise := by
  intro i s t r ht hr
  cases exec_case ht with
  | pipeline d h =>
    obtain rfl : okResponse d = r := by simpa [h.sameCli.responses] using hr
    exact ⟨nofun, nofun⟩
  | cli h =>
    obtain rfl : okResponse .none = r := by simpa [h.samePipeline.responses] using hr
    exact ⟨nofun, nofun⟩
  | held =>
    obtain rfl : holdResponse = r := by simpa using hr
    exact ⟨nofun, fun _ => rfl⟩
  | raised e =>
    obtain rfl : errResponse e = r := by simpa using hr
    exact ⟨fun _ => ⟨e, rfl, .inl rfl⟩, nofun⟩
  | stoppedMalformed =>
    obtain rfl : errResponse .malformedPacket = r := by simpa [State.stopMalformed] using hr
    exact ⟨fun _ => ⟨_, rfl, .inr ⟨rfl, ⟨_, rfl⟩, rfl⟩⟩, nofun⟩

end Sys2Proof.Machine
end

-- ==== Proofs: one step ====
section
/-! The order of one step: the time check, the decode, then the operation's own rule
(00_scope.md R11). -/

namespace Sys2Proof.Machine

theorem step_of_nothing {s : State} (h : s.input = []) : step s = .next s := by
  simp only [step, h]

theorem step_of_reset {s : State} {rest : List Event} (h : s.input = .reset :: rest) :
    step s = .next (s.takeReset rest) := by
  simp only [step, h]

theorem step_of_reversed {s : State} {o : Operation} {rest : List Event}
    (h : s.input = .op o :: rest) (ht : o.now.toNat < s.now.toNat) :
    step s = .refused .timeReversed := by
  simp only [step, h, runOperation, if_pos ht]

theorem step_of_decoded {s : State} {o : Operation} {rest : List Event} {i : Instr}
    (h : s.input = .op o :: rest) (ht : s.now.toNat ≤ o.now.toNat)
    (hi : decode o.cmd o.arg = .ok i) : step s = exec i (s.accept rest o.now) := by
  simp only [step, h, runOperation, if_neg (Nat.not_lt.2 ht), hi]

theorem step_of_undecoded {s : State} {o : Operation} {rest : List Event} {e : DecodeError}
    (h : s.input = .op o :: rest) (ht : s.now.toNat ≤ o.now.toNat)
    (he : decode o.cmd o.arg = .error e) :
    step s = .next ((s.accept rest o.now).raise (decodeErrorCode e)) := by
  simp only [step, h, runOperation, if_neg (Nat.not_lt.2 ht), he, State.rejectCommand]

/-- An operation whose time does not go back has a next state. -/
theorem step_next_of_op {s : State} {o : Operation} {rest : List Event}
    (h : s.input = .op o :: rest) (ht : s.now.toNat ≤ o.now.toNat) : ∃ t, step s = .next t := by
  cases hd : decode o.cmd o.arg with
  | error e => exact ⟨_, step_of_undecoded h ht hd⟩
  | ok i => rw [step_of_decoded h ht hd]; exact exec_next i _

/-- Settles O5. -/
theorem stepRunsDecodedOperation : Obligations.StepRunsDecodedOperation :=
  fun _ _ _ _ h ht hi => step_of_decoded h ht hi

/-- Settles O6. -/
theorem rejectedCommandRaises : Obligations.RejectedCommandRaises :=
  fun _ _ _ _ h ht he => ⟨_, rfl, step_of_undecoded h ht he⟩

/-- Settles O7, by what is presented next. -/
theorem stepRefusesOnlyReversedTime : Obligations.StepRefusesOnlyReversedTime := by
  intro s
  refine ⟨fun r => ?_, fun f => f.casesOn, step_of_nothing⟩
  constructor
  · intro h
    rcases hin : s.input with _ | ⟨⟨o⟩ | _, rest⟩
    · simp [step_of_nothing hin] at h
    · rcases Nat.lt_or_ge o.now.toNat s.now.toNat with ht | ht
      · rw [step_of_reversed hin ht] at h
        cases h
        exact ⟨rfl, o, rest, rfl, ht⟩
      · obtain ⟨t, hnext⟩ := step_next_of_op hin ht
        simp [hnext] at h
    · simp [step_of_reset hin] at h
  · rintro ⟨rfl, o, rest, hin, ht⟩
    exact step_of_reversed hin ht

/-- Settles O10. -/
theorem resetEventRestoresState : Obligations.ResetEventRestoresState :=
  fun _ _ h => step_of_reset h

end Sys2Proof.Machine
end

-- ==== Proofs: responses, registers and PIPE_START ====
section
/-! What the operations of unit U4 respond and store, one equation per branch (44_control.md R210 to
R216). -/

namespace Sys2Proof.Machine

/-! ### Responses and errors -/

/-- Settles O12: `set_err` ors in one bit, whose place is the error's code less one. -/
theorem errorsSetTheirBit : Obligations.ErrorsSetTheirBit := by
  refine ⟨by decide, fun e => by cases e <;> decide, fun e f => ?_, fun s e => ⟨fun b => ?_, rfl, rfl⟩⟩
  · cases e <;> cases f <;> simp [errorCode]
  · rw [State.setErr_err, BitVec.getLsbD_or, getLsbD_errorBit]

/-- Settles O13. -/
theorem nopAndTickRespond : Obligations.NopAndTickRespond :=
  fun _ => ⟨rfl, rfl, fun _ => rfl, rfl⟩

/-! ### Reading registers -/

theorem State.cfgLineNumber_of_line {s : State} {l : CfgLine} (hjob : s.cliJob = .config)
    (hshown : s.cliState = .wait ∨ s.cliResult = .fail) (hl : s.cfgLines[s.cfgIdx]? = some l) :
    s.cfgLineNumber = l.number := by
  simp only [State.cfgLineNumber, if_pos (And.intro hjob hshown), hl]

theorem State.cfgLineNumber_of_hidden {s : State}
    (h : ¬(s.cliJob = .config ∧ (s.cliState = .wait ∨ s.cliResult = .fail))) :
    s.cfgLineNumber = 0#32 :=
  if_neg h

/-- Settles O14: only OUT_LEVEL and CLI_CFG_LINE are read by cases. -/
theorem registerReadMap : Obligations.RegisterReadMap := by
  intro s
  refine ⟨rfl, rfl, rfl, rfl, rfl, rfl, rfl, rfl, rfl, rfl, rfl, rfl, rfl, fun hlevel => ?_, rfl, rfl,
    rfl, rfl, rfl, fun l hjob hshown hl => ?_, fun hhidden => ?_⟩
  · have hread : s.readReg .outLevel = BitVec.ofNat 32 s.outq.length := if_pos hlevel
    rw [← hread]
    exact exec_regRd_index .outLevel s
  · rw [← State.cfgLineNumber_of_line hjob hshown hl]
    exact exec_regRd_index .cliCfgLine s
  · rw [← State.cfgLineNumber_of_hidden hhidden]
    exact exec_regRd_index .cliCfgLine s

/-! ### Writing registers -/

theorem exec_regWr_index_of_writable {r : Reg} {s : State} (hro : regAccess r ≠ .ro)
    (hlock : regAccess r = .lock → s.pipeState = .idle) (v : U32) :
    exec (.regWr r.index v) s = .next ((s.writeReg r v).respond .none) := by
  have hopen : ¬(regAccess r = .lock ∧ s.pipeState ≠ .idle) := fun h => h.2 (hlock h.1)
  simp only [exec, execRegWr, regOfIndex_index, if_neg hro, if_neg hopen]

theorem exec_regWr_index_of_readOnly {r : Reg} (h : regAccess r = .ro) (s : State) (v : U32) :
    exec (.regWr r.index v) s = .next (s.raise .regReadOnly) := by
  simp only [exec, execRegWr, regOfIndex_index, if_pos h]

theorem exec_regWr_index_of_locked {r : Reg} {s : State} (h : regAccess r = .lock)
    (hbusy : s.pipeState ≠ .idle) (v : U32) :
    exec (.regWr r.index v) s = .next (s.raise .illegalState) := by
  simp [exec, execRegWr, h, hbusy]

/-- Settles O16. -/
theorem registerWriteEffects : Obligations.RegisterWriteEffects := by
  intro s v
  have hwrite : ∀ r, regAccess r ≠ .ro → (regAccess r = .lock → s.pipeState = .idle) →
      exec (.regWr r.index v) s = .next ((s.writeReg r v).respond .none) :=
    fun r hro hlock => exec_regWr_index_of_writable hro hlock v
  refine ⟨hwrite .err (by decide) nofun, hwrite .cliTimeout (by decide) nofun, fun hidle => ?_⟩
  exact ⟨hwrite .ctrl (by decide) fun _ => hidle, hwrite .numTx (by decide) fun _ => hidle,
    hwrite .numRx (by decide) fun _ => hidle, hwrite .numAdc (by decide) fun _ => hidle,
    hwrite .numLoops (by decide) fun _ => hidle, hwrite .framePeriod (by decide) fun _ => hidle,
    hwrite .readTimeout (by decide) fun _ => hidle⟩

theorem regOfIndex_of_reserved {i : BitVec 8} (h : 0x13 < i.toNat) : regOfIndex i = none := by
  rw [Option.eq_none_iff_forall_ne_some]
  intro r hr
  rw [regOfIndex_eq_some_iff.1 hr] at h
  revert h
  cases r <;> decide

theorem regAccess_index (r : Reg) :
    (r.index.toNat ≤ 0x01 ∨ (0x0B ≤ r.index.toNat ∧ r.index.toNat ≤ 0x13) → regAccess r = .ro) ∧
    ((0x03 ≤ r.index.toNat ∧ r.index.toNat ≤ 0x08) ∨ r.index.toNat = 0x0A → regAccess r = .lock) := by
  cases r <;> decide

/-- Settles O17: the index ranges are those of no register, of the read-only ones and of the lock ones. -/
theorem registerAccessErrors : Obligations.RegisterAccessErrors := by
  intro s i v
  refine ⟨fun hreserved => ?_, fun hro => ?_, fun hlock hbusy => ?_⟩
  · have hnone := regOfIndex_of_reserved hreserved
    simp only [exec, execRegRd, execRegWr, hnone, and_self]
  · obtain ⟨r, hr⟩ := exists_regOfIndex_eq_some (i := i) (by omega)
    obtain rfl := regOfIndex_eq_some_iff.1 hr
    exact exec_regWr_index_of_readOnly ((regAccess_index r).1 hro) s v
  · obtain ⟨r, hr⟩ := exists_regOfIndex_eq_some (i := i) (by omega)
    obtain rfl := regOfIndex_eq_some_iff.1 hr
    exact exec_regWr_index_of_locked ((regAccess_index r).2 hlock) hbusy v

/-! ### PIPE_START -/

theorem State.geometryValid_iff (s : State) :
    s.geometryValid = true ↔
      1 ≤ s.numTx.toNat ∧ 1 ≤ s.numRx.toNat ∧ 1 ≤ s.numAdc.toNat ∧ 1 ≤ s.numLoops.toNat ∧
        s.samplesPerFrame ≤ s.cfg.maxFrameSamples := by
  simp only [State.geometryValid, Bool.and_eq_true, decide_eq_true_eq, and_assoc]

/-- Settles O18, by the pipeline state. -/
theorem pipeStartOutcomes : Obligations.PipeStartOutcomes := by
  intro s
  refine ⟨?_, fun hstopped => ?_, fun hidle hgeometry => ?_, fun hidle hgeometry => ?_⟩
  · rintro (h | h) <;> simp only [exec, execPipeStart, h]
  · simp only [exec, execPipeStart, hstopped]
  · have hvalid := s.geometryValid_iff.2 hgeometry
    simp only [exec, execPipeStart, hidle, if_pos hvalid]
    rfl
  · have hvalid := mt s.geometryValid_iff.1 hgeometry
    simp only [exec, execPipeStart, hidle, if_neg hvalid]

end Sys2Proof.Machine
end

-- ==== Proofs: the decoder operations ====
section
/-! The checks of the four decoder operations (42_rdif_decoder.md R140, 60_exceptions.md R245). -/

namespace Sys2Proof.Machine

/-- Settles O36: the checks in the order of the model's branches. -/
theorem decoderCheckOrder : Obligations.DecoderCheckOrder := by
  intro s w
  refine ⟨rfl, s.geometryValid_iff, fun hlong => ?_, fun hroom => ?_⟩
  · simp only [exec, execUnswizzle, execReshape, execSignconv, execDecodeFrame, if_pos hlong, and_self]
  have hshort := Nat.not_lt.2 hroom
  simp only [exec, execUnswizzle, execReshape, execSignconv, execDecodeFrame, if_neg hshort]
  refine ⟨fun hblocks => ?_, fun hgeometry => ?_, fun hgeometry hlength => ?_, fun hwide => ?_⟩
  · simp [hblocks]
  · exact ⟨by simp [hgeometry], fun hblocks => by simp [hblocks, hgeometry]⟩
  · exact ⟨by simp [hgeometry, hlength], fun hblocks => by simp [hblocks, hgeometry, hlength]⟩
  · have hany : w.any (fun x => decide (0x0FFF < x.toNat)) = true := by simpa using hwide
    simp [hany]

end Sys2Proof.Machine
end

-- ==== Proofs: the chunks of a payload ====
section
/-! How a payload is cut into chunks (41_reassembly.md R114, R125). A chunk is the last one, or it fills its
frame to the end; `splitChunks_induction` is the induction over this, and every fact about the chunks is one
use of it. -/

namespace Sys2Proof.Machine

/-- The chunks of a payload, for S of at least 1: none of an empty payload, one of a payload that ends
inside the frame it begins in, and otherwise one up to the end of the frame and those of the rest. -/
theorem splitChunks_induction {S : Nat} (hS : 1 ≤ S) {P : Nat → List Word → List Chunk → Prop}
    (nil : ∀ o, P o [] [])
    (last : ∀ o ws, ws ≠ [] → o % S + ws.length ≤ S → P o ws [⟨o / S, o % S, ws⟩])
    (full : ∀ o ws k cs, 1 ≤ k → k < ws.length → o % S + k = S → P (o + k) (ws.drop k) cs →
      P o ws (⟨o / S, o % S, ws.take k⟩ :: cs)) :
    ∀ (fuel o : Nat) (ws : List Word), ws.length ≤ fuel → P o ws (splitChunks fuel S o ws) := by
  have hempty : ∀ fuel o, splitChunks fuel S o [] = [] := by
    intro fuel o; cases fuel <;> simp [splitChunks]
  intro fuel
  induction fuel with
  | zero =>
    intro o ws hfuel
    rw [List.eq_nil_of_length_eq_zero (Nat.le_zero.1 hfuel)]
    exact nil o
  | succ fuel ih =>
    intro o ws hfuel
    by_cases hws : ws = []
    · rw [hws, hempty]; exact nil o
    have hpos : 0 < ws.length := List.length_pos_iff.2 hws
    have hmod : o % S < S := Nat.mod_lt _ hS
    have hstop : ¬(S = 0 ∨ ws = []) := by simp [hws]; omega
    simp only [splitChunks, if_neg hstop]
    by_cases hlast : o % S + ws.length ≤ S
    · rw [Nat.min_eq_left (by omega), List.take_length, List.drop_length, hempty]
      exact last o ws hws hlast
    · rw [Nat.min_eq_right (by omega)]
      refine full o ws _ _ (by omega) (by omega) (by omega) (ih _ _ ?_)
      rw [List.length_drop]; omega

/-- The start of the next frame. -/
theorem add_mod_and_div_of_frame_end {S o k : Nat} (hS : 1 ≤ S) (hend : o % S + k = S) :
    (o + k) % S = 0 ∧ (o + k) / S = o / S + 1 := by
  have hnext : o + k = S * (o / S + 1) := by
    have := Nat.div_add_mod o S
    rw [Nat.mul_add]; omega
  rw [hnext]
  exact ⟨Nat.mul_mod_right _ _, Nat.mul_div_cancel_left _ hS⟩

section
variable {S : Nat} (hS : 1 ≤ S) {fuel : Nat} (o : Nat) {ws : List Word} (hfuel : ws.length ≤ fuel)
include hS hfuel

theorem flatten_splitChunks : ((splitChunks fuel S o ws).map Chunk.words).flatten = ws := by
  refine splitChunks_induction hS (P := fun _ ws cs => (cs.map Chunk.words).flatten = ws)
    (fun _ => rfl) (fun _ _ _ _ => by simp) (fun _ ws k cs _ _ _ ih => ?_) fuel o ws hfuel
  simp [ih]

theorem splitChunks_inside :
    ∀ c ∈ splitChunks fuel S o ws, c.words ≠ [] ∧ c.pos + c.words.length ≤ S := by
  refine splitChunks_induction hS
    (P := fun _ _ cs => ∀ c ∈ cs, c.words ≠ [] ∧ c.pos + c.words.length ≤ S)
    (by simp) (fun o ws hws hlast => by simpa using ⟨hws, hlast⟩)
    (fun o ws k cs hk hlt hend ih => ?_) fuel o ws hfuel
  rw [List.forall_mem_cons]
  refine ⟨⟨List.ne_nil_of_length_pos ?_, ?_⟩, ih⟩ <;> simp only [List.length_take] <;> omega

theorem splitChunks_fid_rises :
    ((splitChunks fuel S o ws).map Chunk.fid).Pairwise (· < ·) := by
  refine (splitChunks_induction hS
    (P := fun o _ cs => (∀ c ∈ cs, o / S ≤ c.fid) ∧ (cs.map Chunk.fid).Pairwise (· < ·))
    (by simp) (by simp) (fun o ws k cs hk hlt hend ih => ?_) fuel o ws hfuel).2
  obtain ⟨hlater, hsorted⟩ := ih
  rw [(add_mod_and_div_of_frame_end hS hend).2] at hlater
  simp only [List.forall_mem_cons, List.map_cons, List.pairwise_cons, List.forall_mem_map]
  exact ⟨⟨le_rfl, fun c hc => Nat.le_of_succ_le (hlater c hc)⟩, hlater, hsorted⟩

theorem splitChunks_place :
    ∀ k c, (splitChunks fuel S o ws)[k]? = some c →
      c.fid * S + c.pos =
        o + (((splitChunks fuel S o ws).take k).map (fun x => x.words.length)).sum := by
  refine splitChunks_induction hS
    (P := fun o _ cs => ∀ k c, cs[k]? = some c →
      c.fid * S + c.pos = o + ((cs.take k).map (fun x => x.words.length)).sum)
    (by simp) (fun o ws _ _ k c hc => ?_) (fun o ws n cs _ hlt _ ih k c hc => ?_) fuel o ws hfuel
  · obtain ⟨rfl, rfl⟩ : k = 0 ∧ _ = c := by simpa [List.getElem?_singleton] using hc
    simpa using Nat.div_add_mod' o S
  · cases k with
    | zero =>
      obtain rfl : _ = c := by simpa using hc
      simpa using Nat.div_add_mod' o S
    | succ k =>
      have := ih k c (by simpa using hc)
      simp only [List.take_succ_cons, List.map_cons, List.sum_cons, List.length_take]
      omega

/-- A run that begins inside a frame touches that frame and those that begin in the run. -/
theorem length_splitChunks_le : (splitChunks fuel S o ws).length ≤ (o % S + ws.length + S - 1) / S := by
  refine splitChunks_induction hS
    (P := fun o ws cs => cs.length ≤ (o % S + ws.length + S - 1) / S)
    (by simp) (fun o ws hws _ => ?_) (fun o ws k cs _ hlt hend ih => ?_) fuel o ws hfuel
  · have hpos : 0 < ws.length := List.length_pos_iff.2 hws
    rw [Nat.le_div_iff_mul_le hS, List.length_singleton]; omega
  · rw [(add_mod_and_div_of_frame_end hS hend).1, List.length_drop] at ih
    have hsplit : o % S + ws.length + S - 1 = 0 + (ws.length - k) + S - 1 + S := by omega
    rw [hsplit, Nat.add_div_right _ hS, List.length_cons]
    omega

/-- No chunk reaches past the end of the run. -/
theorem splitChunks_end :
    ∀ c ∈ splitChunks fuel S o ws, c.fid * S + c.pos + c.words.length ≤ o + ws.length := by
  refine splitChunks_induction hS
    (P := fun o ws cs => ∀ c ∈ cs, c.fid * S + c.pos + c.words.length ≤ o + ws.length)
    (by simp) (fun o ws _ _ => ?_) (fun o ws k cs _ hlt _ ih => ?_) fuel o ws hfuel
  · simpa using (Nat.div_add_mod' o S).le
  · rw [List.forall_mem_cons]
    refine ⟨?_, fun c hc => ?_⟩
    · have := Nat.div_add_mod' o S
      simp only [List.length_take]; omega
    · have := ih c hc
      rw [List.length_drop] at this; omega

end

/-- Settles O25, clause by clause. -/
theorem chunksCoverPayload : Obligations.ChunksCoverPayload := by
  rintro S o ws cs hS rfl
  refine ⟨flatten_splitChunks hS o le_rfl, splitChunks_inside hS o le_rfl,
    splitChunks_fid_rises hS o le_rfl, splitChunks_place hS o le_rfl, ?_⟩
  calc (splitChunks ws.length S o ws).length
      ≤ (o % S + ws.length + S - 1) / S := length_splitChunks_le hS o le_rfl
    _ ≤ (ws.length + S - 1 + S) / S :=
        Nat.div_le_div_right (by have := Nat.mod_lt o hS; omega)
    _ = (ws.length + S - 1) / S + 1 := Nat.add_div_right _ hS

/-! ### The range of frame ids -/

/-- A datagram's samples begin before 2^47 and are at most 2043 (30_encoding.md R88, R89). -/
theorem sampleOffset_add_length_lt {d : List Byte} (h : malformed d = false) :
    sampleOffset d + (packetPayload d).length < 2 ^ 47 + 2 ^ 11 := by
  have hoff : packetOffset d < 2 ^ 48 := by
    unfold packetOffset; exact BitVec.isLt _
  have hlen : ¬(d.length < 10 ∨ 4096 < d.length ∨ (d.length - 10) % 2 = 1) := by
    rw [← malformed_iff, h]; simp
  rw [length_packetPayload, sampleOffset]
  omega

theorem fid_mul_lt_of_mem_splitChunks {d : List Byte} {S : Nat} {c : Chunk} (hd : malformed d = false)
    (hS : 1 ≤ S)
    (hc : c ∈ splitChunks (packetPayload d).length S (sampleOffset d) (packetPayload d)) :
    c.fid * S < 2 ^ 47 + 2 ^ 11 := by
  have hend := splitChunks_end hS _ le_rfl c hc
  have := sampleOffset_add_length_lt hd
  omega

/-- A well-formed datagram of two samples at the largest byte offset. -/
def lastDatagram : List Byte :=
  List.replicate 4 0x00#8 ++ List.replicate 6 0xFF#8 ++ List.replicate 4 0x00#8

theorem splitChunks_lastDatagram :
    splitChunks (packetPayload lastDatagram).length 1 (sampleOffset lastDatagram)
      (packetPayload lastDatagram) = [⟨2 ^ 47 - 1, 0, [0#16]⟩, ⟨2 ^ 47, 0, [0#16]⟩] := by
  decide

/-- Settles O26. With S of at least 2 the ids of the samples of one datagram end far below 2^47; with S = 1
`lastDatagram` reaches it. -/
theorem frameIdRange : Obligations.FrameIdRange := by
  refine ⟨fun d S c hd hS hc => ?_, fun d c hd hc => ?_, lastDatagram, ⟨2 ^ 47, 0, [0#16]⟩, by decide,
    ?_, rfl⟩
  · have htwo : c.fid * 2 ≤ c.fid * S := Nat.mul_le_mul_left _ hS
    have := fid_mul_lt_of_mem_splitChunks hd (by omega) hc
    omega
  · simpa using fid_mul_lt_of_mem_splitChunks hd le_rfl hc
  · rw [splitChunks_lastDatagram]; simp

end Sys2Proof.Machine
end

-- ==== Proofs: placing chunks ====
section
/-! One chunk on the pending store (41_reassembly.md R114 to R116, R123), and the chunks of one frame in
any order (R126). -/

namespace Sys2Proof.Machine

/-! ### Complete entries -/

theorem Entry.complete_iff (e : Entry) : e.complete = true ↔ none ∉ e.slots := by
  rw [Entry.complete, List.all_eq_true]
  refine ⟨fun h hnone => by simpa using h _ hnone, fun h w hw => ?_⟩
  rw [Option.isSome_iff_ne_none]
  rintro rfl
  exact h hw

theorem Entry.complete_eq_false_iff (e : Entry) : e.complete = false ↔ none ∈ e.slots := by
  rw [← Bool.not_eq_true, e.complete_iff, not_not]

/-- The words of a complete entry fill all its positions. -/
theorem Entry.map_some_buf {e : Entry} (h : none ∉ e.slots) : e.buf.map some = e.slots := by
  unfold Entry.buf
  generalize e.slots = slots at h
  induction slots with
  | nil => rfl
  | cons slot slots ih =>
    rw [List.mem_cons, not_or] at h
    obtain ⟨w, rfl⟩ := Option.ne_none_iff_exists'.1 (Ne.symm h.1)
    simpa using ih h.2

/-! ### One chunk -/

section
variable {cap : Option Nat} {S : Nat} {now : Time} {w : Walk} {c : Chunk} {e : Entry}

theorem chunkEntry_of_full (hnone : storeFind w.pending c.fid = none)
    (hfull : cap = some w.pending.length) : chunkEntry cap S now w.pending c.fid = none := by
  simp [chunkEntry, hnone, hfull]

theorem chunkEntry_of_found (hfound : storeFind w.pending c.fid = some e) :
    chunkEntry cap S now w.pending c.fid = some e := by
  simp [chunkEntry, hfound]

theorem chunkEntry_of_room (hnone : storeFind w.pending c.fid = none)
    (hroom : cap ≠ some w.pending.length) :
    chunkEntry cap S now w.pending c.fid = some (freshEntry S now) := by
  simp [chunkEntry, hnone, hroom]

theorem placeChunk_of_dropped (h : chunkEntry cap S now w.pending c.fid = none) :
    placeChunk cap S now w c = { w with overflow := true } := by
  simp [placeChunk, h]

theorem placeChunk_of_complete (h : chunkEntry cap S now w.pending c.fid = some e)
    (hfilled : none ∉ (e.writeChunk c.pos c.words).slots) :
    placeChunk cap S now w c =
      { w with
        pending := storeErase w.pending c.fid
        completed := w.completed ++ [(c.fid, (e.writeChunk c.pos c.words).buf)] } := by
  simp [placeChunk, h, (Entry.complete_iff _).2 hfilled]

theorem placeChunk_of_incomplete (h : chunkEntry cap S now w.pending c.fid = some e)
    (hopen : none ∈ (e.writeChunk c.pos c.words).slots) :
    placeChunk cap S now w c =
      { w with pending := storeSet w.pending c.fid (e.writeChunk c.pos c.words) } := by
  simp [placeChunk, h, (Entry.complete_eq_false_iff _).2 hopen]

/-- A chunk touches its own frame's entry only. -/
theorem storeFind_placeChunk_other {other : Nat} (h : other ≠ c.fid) :
    storeFind (placeChunk cap S now w c).pending other = storeFind w.pending other := by
  rcases placeChunk_cases cap S now w c with ⟨-, h'⟩ | ⟨e, -, -, h'⟩ | ⟨e, -, -, h'⟩ <;> rw [h']
  · exact storeFind_storeErase_other _ h
  · exact storeFind_storeSet_other _ _ h

end

/-- Settles O27: the entry the chunk goes to, if there is one, and what writing it gives. -/
theorem chunkPlacement : Obligations.ChunkPlacement := by
  rintro cap S now w w' c e rfl hinside
  refine ⟨fun hnone hfull => placeChunk_of_dropped (chunkEntry_of_full hnone hfull),
    fun hentry hshape => ?_, fun other hother => storeFind_placeChunk_other hother⟩
  have hchunk : chunkEntry cap S now w.pending c.fid = some e := by
    rcases hentry with hfound | ⟨hnone, hroom, rfl⟩
    · exact chunkEntry_of_found hfound
    · exact chunkEntry_of_room hnone hroom
  have hfits : c.pos + c.words.length ≤ e.slots.length := hshape ▸ hinside
  refine ⟨(e.writeChunk c.pos c.words).slots, (e.writeChunk_length _ _ hfits).trans hshape,
    fun q _ => e.writeChunk_getElem? _ _ q hfits, fun hopen => ?_, fun hfilled => ?_, ?_⟩
  · rw [placeChunk_of_incomplete hchunk hopen]
    exact ⟨storeFind_storeSet_same _ _ _, rfl⟩
  · rw [placeChunk_of_complete hchunk hfilled]
    exact ⟨storeFind_storeErase_same _ _, _, Entry.map_some_buf hfilled, rfl⟩
  · by_cases hopen : none ∈ (e.writeChunk c.pos c.words).slots
    · rw [placeChunk_of_incomplete hchunk hopen]
    · rw [placeChunk_of_complete hchunk hopen]

/-! ### The chunks of one frame -/

theorem storeSet_storeSet (p : Store) (fid : Nat) (e f : Entry) :
    storeSet (storeSet p fid e) fid f = storeSet p fid f := by
  induction p with
  | nil => simp [storeSet]
  | cons q p ih =>
    obtain ⟨k, g⟩ := q
    rcases Nat.lt_trichotomy fid k with h | rfl | h
    · simp [storeSet, h]
    · simp [storeSet]
    · simp [storeSet, h.not_gt, h.ne', ih]

theorem storeErase_of_notFound {p : Store} {fid : Nat} (h : storeFind p fid = none) :
    storeErase p fid = p := by
  rw [storeErase, List.filter_eq_self]
  simpa using (storeFind_eq_none_iff p fid).1 h

theorem storeErase_storeSet (p : Store) (fid : Nat) (e : Entry) :
    storeErase (storeSet p fid e) fid = storeErase p fid := by
  induction p with
  | nil => simp [storeSet, storeErase]
  | cons q p ih =>
    obtain ⟨k, g⟩ := q
    rcases Nat.lt_trichotomy fid k with h | rfl | h
    · simp [storeSet, storeErase, h]
    · simp [storeSet, storeErase]
    · have hkeep : ∀ t : Store, storeErase ((k, g) :: t) fid = (k, g) :: storeErase t fid := by
        intro t; simp [storeErase, h.ne]
      rw [storeSet, if_neg h.not_gt, if_neg h.ne', hkeep, hkeep, ih]

/-- The store `p` with the frame `fid` under way: not begun, or with an entry of these slots. -/
def UnderWay (p : Store) (fid : Nat) (slots : List (Option Word)) (pending : Store) : Prop :=
  (pending = p ∧ slots = List.replicate slots.length none) ∨
    ∃ t, pending = storeSet p fid ⟨slots, t⟩

/-- The number of chunks that cover position `q`. -/
def coverage (cs : List (Time × Chunk)) (q : Nat) : Nat :=
  cs.countP (fun c => decide (c.2.pos ≤ q ∧ q < c.2.pos + c.2.words.length))

/-- The chunks `cs` are those still to come of a frame of which `slots` holds the rest. -/
structure Awaiting (frame : List Word) (slots : List (Option Word)) (cs : List (Time × Chunk)) :
    Prop where
  size : slots.length = frame.length
  position : ∀ q < frame.length,
    (slots[q]? = some none ∧ coverage cs q = 1) ∨ (slots[q]? = some frame[q]? ∧ coverage cs q = 0)

/-- A chunk of the frame `fid` with the frame's words. -/
structure ChunkOf (fid : Nat) (frame : List Word) (c : Chunk) : Prop where
  fid : c.fid = fid
  nonempty : c.words ≠ []
  inside : c.pos + c.words.length ≤ frame.length
  words : c.words = (frame.drop c.pos).take c.words.length

section
variable {p : Store} {fid : Nat} {frame : List Word} {slots : List (Option Word)}

theorem UnderWay.chunkEntry {pending : Store} (h : UnderWay p fid slots pending)
    (hnew : storeFind p fid = none) {cap : Option Nat} (hroom : cap ≠ some p.length) (now : Time) :
    ∃ t, Machine.chunkEntry cap slots.length now pending fid = some ⟨slots, t⟩ := by
  rcases h with ⟨rfl, hslots⟩ | ⟨t, rfl⟩
  · refine ⟨now, ?_⟩
    rw [Machine.chunkEntry, hnew]
    simp only [if_neg hroom, freshEntry, ← hslots]
  · refine ⟨t, ?_⟩
    rw [Machine.chunkEntry, storeFind_storeSet_same]

theorem UnderWay.storeSet_eq {pending : Store} (h : UnderWay p fid slots pending) (e : Entry) :
    storeSet pending fid e = storeSet p fid e := by
  rcases h with ⟨rfl, -⟩ | ⟨t, rfl⟩
  · rfl
  · exact storeSet_storeSet _ _ _ _

theorem UnderWay.storeErase_eq {pending : Store} (h : UnderWay p fid slots pending)
    (hnew : storeFind p fid = none) : storeErase pending fid = p := by
  rcases h with ⟨rfl, -⟩ | ⟨t, rfl⟩
  · exact storeErase_of_notFound hnew
  · rw [storeErase_storeSet, storeErase_of_notFound hnew]

theorem coverage_cons (c : Time × Chunk) (cs : List (Time × Chunk)) (q : Nat) :
    coverage (c :: cs) q =
      coverage cs q + if c.2.pos ≤ q ∧ q < c.2.pos + c.2.words.length then 1 else 0 := by
  simp [coverage, List.countP_cons]

/-- A chunk fills the positions it covers, which no later chunk covers again. -/
theorem Awaiting.write {c : Time × Chunk} {cs : List (Time × Chunk)} {t : Time}
    (h : Awaiting frame slots (c :: cs)) (hc : ChunkOf fid frame c.2) :
    Awaiting frame (Entry.writeChunk ⟨slots, t⟩ c.2.pos c.2.words).slots cs := by
  have hfits : c.2.pos + c.2.words.length ≤ slots.length := h.size ▸ hc.inside
  refine ⟨(Entry.writeChunk_length ⟨slots, t⟩ _ _ hfits).trans h.size, fun q hq => ?_⟩
  rw [Entry.writeChunk_getElem? ⟨slots, t⟩ _ _ q hfits]
  have hpos := h.position q hq
  rw [coverage_cons] at hpos
  by_cases hcovered : c.2.pos ≤ q ∧ q < c.2.pos + c.2.words.length
  · rw [if_pos hcovered] at hpos ⊢
    have hword : c.2.words[q - c.2.pos]? = frame[q]? := by
      rw [hc.words, List.getElem?_take_of_lt (by omega), List.getElem?_drop,
        Nat.add_sub_cancel' hcovered.1]
    exact .inr ⟨by rw [hword], by omega⟩
  · rw [if_neg hcovered]
    rwa [if_neg hcovered, Nat.add_zero] at hpos

theorem Awaiting.none_notMem (h : Awaiting frame slots []) : none ∉ slots := by
  intro hnone
  obtain ⟨q, hq⟩ := List.mem_iff_getElem?.1 hnone
  have hlt : q < frame.length := h.size ▸ (List.getElem?_eq_some_iff.1 hq).1
  rcases h.position q hlt with ⟨-, hcount⟩ | ⟨hword, -⟩
  · simp [coverage] at hcount
  · simp [hq, hlt] at hword

theorem Awaiting.slots_eq (h : Awaiting frame slots []) : slots = frame.map some := by
  refine List.ext_getElem? fun q => ?_
  rcases Nat.lt_or_ge q frame.length with hq | hq
  · rcases h.position q hq with ⟨-, hcount⟩ | ⟨hword, -⟩
    · simp [coverage] at hcount
    · simp [hword, hq]
  · rw [List.getElem?_eq_none (h.size ▸ hq), List.getElem?_eq_none (by simpa using hq)]

/-- While a chunk is to come, its first position is not filled. -/
theorem Awaiting.none_mem {c : Time × Chunk} {cs : List (Time × Chunk)}
    (h : Awaiting frame slots (c :: cs)) (hc : ChunkOf fid frame c.2) : none ∈ slots := by
  have hlen := List.length_pos_iff.2 hc.nonempty
  have hinside := hc.inside
  have hpos := h.position c.2.pos (by omega)
  rw [coverage_cons, if_pos ⟨le_rfl, by omega⟩] at hpos
  rcases hpos with ⟨hnone, -⟩ | ⟨-, hcount⟩
  · exact List.mem_of_getElem? hnone
  · omega

/-- The chunks still to come of a frame under way complete it. -/
theorem foldl_placeChunk_of_awaiting {cap : Option Nat} (hnew : storeFind p fid = none)
    (hroom : cap ≠ some p.length) {cs : List (Time × Chunk)} (hcs : cs ≠ [])
    (hof : ∀ c ∈ cs, ChunkOf fid frame c.2) {slots : List (Option Word)} {pending : Store}
    (hway : UnderWay p fid slots pending) (hawait : Awaiting frame slots cs) :
    cs.foldl (fun w c => placeChunk cap frame.length c.1 w c.2) ⟨pending, [], false⟩ =
      ⟨p, [(fid, frame)], false⟩ := by
  induction cs generalizing slots pending with
  | nil => exact absurd rfl hcs
  | cons c cs ih =>
    rw [List.forall_mem_cons] at hof
    obtain ⟨hc, hof⟩ := hof
    obtain ⟨t, hentry⟩ := hway.chunkEntry hnew hroom c.1
    rw [hawait.size, ← hc.fid] at hentry
    have hnext := hawait.write (t := t) hc
    rw [List.foldl_cons]
    cases cs with
    | nil =>
      have hbuf := Entry.map_some_buf hnext.none_notMem
      rw [hnext.slots_eq, List.map_inj_right (fun _ _ => Option.some.inj)] at hbuf
      rw [placeChunk_of_complete hentry hnext.none_notMem, hbuf, hc.fid, hway.storeErase_eq hnew]
      rfl
    | cons c' cs =>
      have hopen := hnext.none_mem (hof c' List.mem_cons_self)
      rw [placeChunk_of_incomplete hentry hopen, hc.fid, hway.storeSet_eq]
      exact ih (List.cons_ne_nil _ _) hof (.inr ⟨t, rfl⟩) hnext

end

/-- Settles O28: at first every position is awaited, by exactly one chunk. -/
theorem reassemblyInAnyOrder : Obligations.ReassemblyInAnyOrder := by
  rintro cap S fid p frame cs hS rfl hnew hroom hof hcover
  have hne : cs ≠ [] := by
    rintro rfl
    simpa using hcover 0 hS
  have hcap : cap ≠ some p.length := fun h => (hroom _ h).false
  refine foldl_placeChunk_of_awaiting (slots := List.replicate frame.length none) hnew hcap hne
    (fun c hc => ?_) (.inl ⟨rfl, by simp⟩) ⟨by simp, fun q hq => .inl ⟨?_, hcover q hq⟩⟩
  · obtain ⟨hfid, hwords, hinside, hagree⟩ := hof c hc
    exact ⟨hfid, hwords, hinside, hagree⟩
  · simp [hq]

end Sys2Proof.Machine
end

-- ==== Proofs: PKT_IN ====
section
/-! PKT_IN as a whole (41_reassembly.md R111, R117, R118). -/

namespace Sys2Proof.Machine

/-- Settles O23: the two equations of `takeDatagram`, with the walk and the states written out. -/
theorem pktInTakesDatagram : Obligations.PktInTakesDatagram := by
  intro s d w hrunning hlong hshort heven hw
  have hgood : malformed d = false := by
    rw [← Bool.not_eq_true, malformed_iff]; omega
  obtain rfl : w = s.datagramWalk d := hw
  rw [exec_pktIn_of_running hrunning hgood]
  refine ⟨fun hnone => ?_, ?_⟩
  · rw [State.takeDatagram_of_none hnone, State.walked_eq]
    rfl
  · rintro hsome emitted stale rfl rfl
    rw [State.takeDatagram_of_completed hsome, State.emitting_eq]
    simp only [not_isStale, staleIds, List.length_map]
    rfl

theorem SameButChannel.frame {s t : State} (h : SameButChannel s t) :
    t = { s with
      err := t.err, outDropTotal := t.outDropTotal, framesOutTotal := t.framesOutTotal
      pipeState := t.pipeState, outq := t.outq, holdq := t.holdq } := by
  cases s; cases t; cases h; simp_all

/-- Settles O24, by what PKT_IN can do (`exec_case`). -/
theorem pktInLeavesRestUnchanged : Obligations.PktInLeavesRestUnchanged := by
  intro s t d ht
  cases exec_case ht with
  | pipeline r h =>
    cases h with
    | unchanged => rfl
    | walked => rw [State.walked_eq]; rfl
    | emitted =>
      have hframe := (State.pipelineOut_foldl_same (s.emittedOf (s.datagramWalk d).completed)
        (s.emitting d)).frame
      generalize List.foldl _ _ _ = u at hframe ⊢
      rw [hframe, State.emitting_eq]
      rfl
  | cli h => cases h with | sent hcommand => exact absurd hcommand (by simp [commandOf])
  | held => rfl
  | raised => rfl
  | stoppedMalformed => rfl

end Sys2Proof.Machine
end

-- ==== Proofs: the CLI operations ====
section
/-! The CLI operations on an open port (43_cli_fsm.md R174 to R193). -/

namespace Sys2Proof.Machine

/-! ### Sending commands -/

theorem State.startCommand_eq (s : State) (j : CliJob) (line : List Byte) :
    s.startCommand j line =
      State.respond
        { s with
          tx := s.tx ++ line ++ [byteLF]
          cliDeadline := s.now.toNat + s.cliTimeout.toNat
          cliState := .wait, cliJob := j, cliOutcome := .none, cliResult := .none } .none := by
  simp only [State.startCommand, State.sendLine, State.beginJob, State.emitTx, List.append_assoc]

theorem exec_cliSend_of_valid {s : State} {l : List Byte} (h : s.cliState = .idle)
    (hl : validLine s.cfg l = true) : exec (.cliSend l) s = .next (s.startCommand .send l) := by
  rw [exec_cliSend, State.whenIdle_of_idle h, if_pos hl]

theorem exec_cliClose_of_open {s : State} (h : s.cliState ≠ .closed) :
    exec .cliClose s = .next (s.startCommand .close lineSensorStop) := by
  simp [exec, execCliClose, h]

/-- Settles O38: each operation is one `startCommand`. -/
theorem cliCommandsTransmit : Obligations.CliCommandsTransmit := by
  rintro s _ _ rfl rfl
  refine ⟨fun line hidle hlf hfits => ?_, fun hidle => ?_, fun hidle => ?_, fun hopen => ?_⟩
  · have hvalid : validLine s.cfg line = true := by
      rw [← Bool.not_eq_false, validLine_eq_false_iff, not_or, Nat.not_lt]
      exact ⟨hlf, hfits⟩
    rw [exec_cliSend_of_valid hidle hvalid, State.startCommand_eq]
    rfl
  · rw [exec_cliStart, State.whenIdle_of_idle hidle, State.startCommand_eq]
    rfl
  · rw [exec_cliStop, State.whenIdle_of_idle hidle, State.startCommand_eq]
    rfl
  · rw [exec_cliClose_of_open hopen, State.startCommand_eq]
    rfl

theorem hasLongLine_iff (c : Config) (lines : List CfgLine) :
    hasLongLine c lines = true ↔ ∃ l ∈ lines, c.maxLine < l.bytes.length := by
  simp [hasLongLine]

theorem exec_cliSendConfig_of_legal {s : State} {text : List Byte} (h : s.cliState = .idle)
    (htext : text.length ≤ s.cfg.maxCfgBytes)
    (hlines : ∀ l ∈ forwardableLines text, l.bytes.length ≤ s.cfg.maxLine) :
    exec (.cliSendConfig text) s = .next ((s.startConfig (forwardableLines text)).respond .none) := by
  have hshort : ¬hasLongLine s.cfg (forwardableLines text) = true := by
    rw [hasLongLine_iff]; simpa using hlines
  rw [exec_cliSendConfig, State.whenIdle_of_idle h, if_neg (Nat.not_lt.2 htext), if_neg hshort]

/-- Settles O40, by the text. -/
theorem cliSendConfigOutcomes : Obligations.CliSendConfigOutcomes := by
  intro s text hidle
  refine ⟨fun hlong => ?_, fun hline => ?_, fun htext hnone => ?_, fun l ls htext hcons hfits => ?_⟩
  · rw [exec_cliSendConfig, State.whenIdle_of_idle hidle, if_pos hlong]
  · rw [exec_cliSendConfig, State.whenIdle_of_idle hidle, if_pos ((hasLongLine_iff _ _).2 hline),
      ite_self]
  · rw [exec_cliSendConfig_of_legal hidle htext (by simp [hnone]), hnone]
    rfl
  · rw [exec_cliSendConfig_of_legal hidle htext (by rwa [hcons]), hcons]
    simp only [State.startConfig, State.sendLine, State.beginJob, State.emitTx, List.append_assoc]
    rfl

/-! ### Receiving bytes -/

theorem exec_cliRxByte_LF {s : State} (h : s.cliState ≠ .closed) :
    exec (.cliRxByte byteLF) s = .next (s.completeLine.respond .none) := by
  simp [exec, execCliRxByte, h]

theorem exec_cliRxByte_of_undecodable {s : State} (h : s.cliState ≠ .closed) {b : Byte}
    (hb : 0x80 ≤ b.toNat) : exec (.cliRxByte b) s = .next (s.respond .none) := by
  have hlf : b ≠ byteLF := by rintro rfl; exact absurd hb (by decide)
  simp [exec, execCliRxByte, h, hlf, hb]

theorem exec_cliRxByte_of_char {s : State} (h : s.cliState ≠ .closed) {b : Byte}
    (hb : b.toNat < 0x80) (hlf : b ≠ byteLF) :
    exec (.cliRxByte b) s = .next ((s.storeChar b).respond .none) := by
  simp [exec, execCliRxByte, h, hlf, hb]

theorem State.storeChar_of_room {s : State} (h : s.rxBuf.length < s.cfg.maxLine) (b : Byte) :
    s.storeChar b = { s with rxBuf := s.rxBuf ++ [b] } :=
  if_pos h

theorem State.storeChar_of_full {s : State} (h : s.cfg.maxLine ≤ s.rxBuf.length) (b : Byte) :
    s.storeChar b = s.setErr .lineOverflow :=
  if_neg (Nat.not_lt.2 h)

theorem State.completeLine_of_keyword {s : State} (h : s.cliState = .wait)
    (hmatch : matchLine s.rxBuf ≠ .none) :
    s.completeLine = State.finishWait { s with rxBuf := [] } (matchLine s.rxBuf) :=
  if_pos ⟨h, hmatch⟩

theorem State.completeLine_of_other {s : State} (h : s.cliState = .wait → matchLine s.rxBuf = .none) :
    s.completeLine = { s with rxBuf := [] } :=
  if_neg fun h' => h'.2 (h h'.1)

/-- Settles O42, by the byte. -/
theorem rxByteCollectsLine : Obligations.RxByteCollectsLine := by
  intro s b hopen
  refine ⟨exec_cliRxByte_of_undecodable hopen, fun hb hlf hroom => ?_, fun hb hlf hfull => ?_, ?_⟩
  · rw [exec_cliRxByte_of_char hopen hb hlf, State.storeChar_of_room hroom]
  · rw [exec_cliRxByte_of_char hopen hb hlf, State.storeChar_of_full hfull]
    rfl
  · rintro rfl hends
    refine (exec_cliRxByte_LF hopen).trans ?_
    rw [State.completeLine_of_other fun hwait => ?_]
    rcases hends with hidle | ⟨herror, hdone⟩
    · rw [hidle] at hwait; cases hwait
    · rcases matchLine_cases s.rxBuf with ⟨h, -⟩ | ⟨-, h, -⟩ | ⟨-, -, h⟩
      · exact absurd h herror
      · exact absurd h hdone
      · exact h

/-! ### The end of a wait -/

theorem State.finishWait_of_single {s : State}
    (h : s.cliJob = .send ∨ s.cliJob = .start ∨ s.cliJob = .stop) (o : CliOutcome) :
    s.finishWait o =
      { s with
        cliOutcome := o, cliState := .idle
        cliResult := if o = .acknowledged then .success else .fail } := by
  rcases h with h | h | h <;> simp [State.finishWait, h, State.endJob]

theorem State.finishWait_of_close {s : State} (h : s.cliJob = .close) (o : CliOutcome) :
    s.finishWait o =
      { s with cliOutcome := o, cliResult := .success, cliState := .closed, rxBuf := [] } := by
  simp [State.finishWait, h, State.closePort]

theorem State.finishWait_of_config {s : State} (h : s.cliJob = .config) (o : CliOutcome) :
    s.finishWait o = State.configStep { s with cliOutcome := o } o := by
  simp [State.finishWait, h]

/-- Settles O44, by the job. -/
theorem keywordLineEndsWait : Obligations.KeywordLineEndsWait := by
  rintro s o hwait rfl hmatch
  have hexec : exec (.cliRxByte 0x0A#8) s =
      .next ((State.finishWait { s with rxBuf := [] } (matchLine s.rxBuf)).respond .none) := by
    rw [← State.completeLine_of_keyword hwait hmatch]
    exact exec_cliRxByte_LF (by simp [hwait])
  rw [hexec]
  refine ⟨fun hjob => ?_, fun hjob => ?_, fun hjob ho => ?_, fun l hjob ho hl => ?_,
    fun hjob ho hl => ?_⟩
  · rw [State.finishWait_of_single (s := { s with rxBuf := [] }) hjob]
  · rw [State.finishWait_of_close (s := { s with rxBuf := [] }) hjob]
  · rw [State.finishWait_of_config (s := { s with rxBuf := [] }) hjob, ho]
    rfl
  · rw [State.finishWait_of_config (s := { s with rxBuf := [] }) hjob, ho]
    simp only [State.configStep, if_true, hl, State.sendLine, State.emitTx, hwait, List.append_assoc]
    rfl
  · rw [State.finishWait_of_config (s := { s with rxBuf := [] }) hjob, ho]
    simp only [State.configStep, if_true, List.getElem?_eq_none hl, State.endJob]

/-! ### The deadline -/

/-- The LF of a keyword line in a step, while a single command waits: what the time check leaves is
answered by the line. -/
theorem step_of_presented_LF {s : State} {now : Time} {rest : List Event}
    (hin : s.input = .op ⟨0x00000012#32, .u8 0x0A#8, now⟩ :: rest) (ht : s.now.toNat ≤ now.toNat)
    (hopen : (s.accept rest now).cliState ≠ .closed) :
    step s = .next ((s.accept rest now).completeLine.respond .none) := by
  have hdecode : decode 0x00000012#32 (.u8 0x0A#8) = .ok (.cliRxByte byteLF) := rfl
  rw [step_of_decoded hin ht hdecode]
  exact exec_cliRxByte_LF hopen

/-- Settles O45: up to the deadline the time check leaves the wait to the line, after it the wait is over
before the line is looked at. -/
theorem keywordBeforeDeadlineDecides : Obligations.KeywordBeforeDeadlineDecides := by
  intro s now rest hwait hjob hin ht hmatch
  have hcliJob : (s.accept rest now).cliJob = s.cliJob := by
    rw [State.accept, State.timeCheck_frame]
  rcases Nat.lt_or_ge s.cliDeadline now.toNat with hlate | hearly
  · obtain ⟨hidle, hresult, -⟩ :=
      (State.timeCheck_of_cliTimeoutDue (s := { s with input := rest, now := now })
        ⟨hwait, hlate⟩).1 hjob
    obtain ⟨-, -, -, houtcome⟩ :=
      State.timeCheck_of_cliTimeoutDue (s := { s with input := rest, now := now }) ⟨hwait, hlate⟩
    have hstate : (s.accept rest now).cliState = .idle := hidle
    refine ⟨_, step_of_presented_LF hin ht (by simp [hstate]), ?_⟩
    rw [State.completeLine_of_other (by simp [hstate])]
    exact ⟨hstate, rfl, fun h => absurd hlate h.not_gt, fun h => absurd hlate h.not_gt,
      fun _ => ⟨houtcome, hresult⟩⟩
  · obtain ⟨hstate, -, -, hrx, -⟩ :=
      State.timeCheck_of_not_cliTimeoutDue (s := { s with input := rest, now := now })
        fun h => h.2.not_ge hearly
    have hwait' : (s.accept rest now).cliState = .wait := hstate.trans hwait
    have hrx' : (s.accept rest now).rxBuf = s.rxBuf := hrx
    refine ⟨_, step_of_presented_LF hin ht (by simp [hwait']), ?_⟩
    rw [State.completeLine_of_keyword hwait' (by rwa [hrx']), hrx',
      State.finishWait_of_single (hcliJob ▸ hjob)]
    refine ⟨rfl, rfl, fun _ hack => ?_, fun _ hrej => ?_, fun h => absurd hearly h.not_ge⟩
    · rw [hack]; exact ⟨rfl, rfl⟩
    · rw [hrej]; exact ⟨rfl, rfl⟩

end Sys2Proof.Machine
end

-- ==== Proofs: swizzle and unswizzle ====
section
/-! The round trip of the bit map of a block (42_rdif_decoder.md R144, R145). Bit 4k + j of sample i and bit
9 - 3i + k of word j are the same bit (`getLsbD_blockSample`, `getLsbD_blockWord`), and either way bits
[15:12] are lost. -/

namespace Sys2Proof.Machine

theorem getLsbD_and_sampleMask (x : Word) (b : Nat) :
    (x &&& 0x0FFF#16).getLsbD b = (x.getLsbD b && decide (b < 12)) := by
  have hmask : 0x0FFF#16 = BitVec.setWidth 16 (BitVec.allOnes 12) := rfl
  rw [BitVec.getLsbD_and, hmask, BitVec.getLsbD_setWidth, BitVec.getLsbD_allOnes]
  by_cases hb : b < 12
  · simp [hb, show b < 16 by omega]
  · simp [hb]

theorem and_sampleMask_of_lt {x : Word} (h : x.toNat < 4096) : x &&& 0x0FFF#16 = x := by
  refine BitVec.eq_of_getLsbD_eq fun b _ => ?_
  rw [getLsbD_and_sampleMask]
  by_cases hb : b < 12
  · simp [hb]
  · have hhigh : x.toNat < 2 ^ b :=
      h.trans_le (Nat.pow_le_pow_right Nat.two_pos (Nat.not_lt.1 hb))
    rw [BitVec.getLsbD, Nat.testBit_lt_two_pow hhigh, Bool.false_and]

/-- The bit map of R145. Of the twelve bits moved into a word, only one lands at a given place. -/
theorem getLsbD_blockWord (j : Nat) (s0 s1 s2 s3 : Word) {i k : Nat} (hi : i < 4) (hk : k < 3) :
    (blockWord j s0 s1 s2 s3).getLsbD (9 - 3 * i + k) =
      ([s0, s1, s2, s3].getD i 0#16).getLsbD (4 * k + j) := by
  simp only [blockWord, List.foldl, BitVec.getLsbD_or, getLsbD_moveBit]
  interval_cases k <;> interval_cases i <;> simp

theorem getLsbD_blockWord_high (j : Nat) (s0 s1 s2 s3 : Word) {b : Nat} (hb : 12 ≤ b) :
    (blockWord j s0 s1 s2 s3).getLsbD b = false := by
  have hne : ∀ n < 12, b ≠ n := by omega
  simp [blockWord, getLsbD_moveBit, hne]

/-- Two words with the same bits [11:0] and no others are equal; the twelve places as places of a
sample. -/
theorem eq_and_sampleMask_of_sampleBits {x y : Word} (hhigh : ∀ b, 12 ≤ b → x.getLsbD b = false)
    (hlow : ∀ j k, j < 4 → k < 3 → x.getLsbD (4 * k + j) = y.getLsbD (4 * k + j)) :
    x = y &&& 0x0FFF#16 := by
  refine BitVec.eq_of_getLsbD_eq fun b _ => ?_
  rw [getLsbD_and_sampleMask]
  rcases Nat.lt_or_ge b 12 with hb | hb
  · have := hlow (b % 4) (b / 4) (Nat.mod_lt _ (by decide)) (by omega)
    rw [Nat.div_add_mod] at this
    simpa [hb] using this
  · simp [hhigh b hb, hb]

/-- The same, with the twelve places as places of a block word. -/
theorem eq_and_sampleMask_of_wordBits {x y : Word} (hhigh : ∀ b, 12 ≤ b → x.getLsbD b = false)
    (hlow : ∀ i k, i < 4 → k < 3 → x.getLsbD (9 - 3 * i + k) = y.getLsbD (9 - 3 * i + k)) :
    x = y &&& 0x0FFF#16 := by
  refine eq_and_sampleMask_of_sampleBits hhigh fun j k hj hk => ?_
  have hplace : 9 - 3 * (3 - (4 * k + j) / 3) + (4 * k + j) % 3 = 4 * k + j := by omega
  rw [← hplace]
  exact hlow _ _ (by omega) (Nat.mod_lt _ (by decide))

theorem blockSample_blockWord (s0 s1 s2 s3 : Word) {i : Nat} (hi : i < 4) :
    blockSample (9 - 3 * i) (blockWord 0 s0 s1 s2 s3) (blockWord 1 s0 s1 s2 s3)
        (blockWord 2 s0 s1 s2 s3) (blockWord 3 s0 s1 s2 s3) =
      [s0, s1, s2, s3].getD i 0#16 &&& 0x0FFF#16 := by
  refine eq_and_sampleMask_of_sampleBits (fun _ => getLsbD_blockSample_high _ _ _ _ _)
    fun j k hj hk => ?_
  rw [getLsbD_blockSample _ _ _ _ _ hj hk, ← getLsbD_blockWord j s0 s1 s2 s3 hi hk]
  interval_cases j <;> rfl

theorem blockWord_blockSample (w0 w1 w2 w3 : Word) {j : Nat} (hj : j < 4) :
    blockWord j (blockSample 9 w0 w1 w2 w3) (blockSample 6 w0 w1 w2 w3) (blockSample 3 w0 w1 w2 w3)
        (blockSample 0 w0 w1 w2 w3) =
      [w0, w1, w2, w3].getD j 0#16 &&& 0x0FFF#16 := by
  refine eq_and_sampleMask_of_wordBits (fun _ => getLsbD_blockWord_high _ _ _ _ _)
    fun i k hi hk => ?_
  rw [getLsbD_blockWord _ _ _ _ _ hi hk, ← getLsbD_blockSample (9 - 3 * i) w0 w1 w2 w3 hj hk]
  interval_cases i <;> rfl

/-- The place of a word inside its block. -/
theorem lt_four_of_mem {i : Nat} (h : i ∈ [0, 1, 2, 3]) : i < 4 := by
  simp only [List.mem_cons, List.not_mem_nil, or_false] at h; omega

theorem unswizzle4_blockWords (s0 s1 s2 s3 : Word) :
    unswizzle4 (blockWord 0 s0 s1 s2 s3) (blockWord 1 s0 s1 s2 s3) (blockWord 2 s0 s1 s2 s3)
        (blockWord 3 s0 s1 s2 s3) =
      [s0, s1, s2, s3].map (fun x => x &&& 0x0FFF#16) :=
  List.map_congr_left (l := [0, 1, 2, 3])
    (g := fun i => [s0, s1, s2, s3].getD i 0#16 &&& 0x0FFF#16)
    fun _ hi => blockSample_blockWord s0 s1 s2 s3 (lt_four_of_mem hi)

theorem swizzle4_blockSamples (w0 w1 w2 w3 : Word) :
    swizzle4 (blockSample 9 w0 w1 w2 w3) (blockSample 6 w0 w1 w2 w3) (blockSample 3 w0 w1 w2 w3)
        (blockSample 0 w0 w1 w2 w3) =
      [w0, w1, w2, w3].map (fun x => x &&& 0x0FFF#16) :=
  List.map_congr_left (l := [0, 1, 2, 3])
    (g := fun j => [w0, w1, w2, w3].getD j 0#16 &&& 0x0FFF#16)
    fun _ hj => blockWord_blockSample w0 w1 w2 w3 (lt_four_of_mem hj)

theorem unswizzle_swizzle : ∀ l : List Word, l.length % 4 = 0 →
    unswizzle (swizzle l) = l.map (fun x => x &&& 0x0FFF#16)
  | [], _ => rfl
  | [_], h | [_, _], h | [_, _, _], h => by simp at h
  | s0 :: s1 :: s2 :: s3 :: rest, h => by
    have hrest : rest.length % 4 = 0 := by simp only [List.length_cons] at h; omega
    calc unswizzle (swizzle4 s0 s1 s2 s3 ++ swizzle rest)
        = unswizzle4 (blockWord 0 s0 s1 s2 s3) (blockWord 1 s0 s1 s2 s3) (blockWord 2 s0 s1 s2 s3)
            (blockWord 3 s0 s1 s2 s3) ++ unswizzle (swizzle rest) := rfl
      _ = _ := by rw [unswizzle4_blockWords, unswizzle_swizzle rest hrest]; rfl

theorem swizzle_unswizzle : ∀ l : List Word, l.length % 4 = 0 →
    swizzle (unswizzle l) = l.map (fun x => x &&& 0x0FFF#16)
  | [], _ => rfl
  | [_], h | [_, _], h | [_, _, _], h => by simp at h
  | w0 :: w1 :: w2 :: w3 :: rest, h => by
    have hrest : rest.length % 4 = 0 := by simp only [List.length_cons] at h; omega
    calc swizzle (unswizzle4 w0 w1 w2 w3 ++ unswizzle rest)
        = swizzle4 (blockSample 9 w0 w1 w2 w3) (blockSample 6 w0 w1 w2 w3)
            (blockSample 3 w0 w1 w2 w3) (blockSample 0 w0 w1 w2 w3) ++
              swizzle (unswizzle rest) := rfl
      _ = _ := by rw [swizzle4_blockSamples, swizzle_unswizzle rest hrest]; rfl

/-- Settles O32: either way round the samples lose bits [15:12], which 12-bit samples do not have. -/
theorem unswizzleSwizzleInverse : Obligations.UnswizzleSwizzleInverse := by
  intro l hl
  refine ⟨fun hsamples => ?_, swizzle_unswizzle l hl⟩
  rw [unswizzle_swizzle l hl]
  calc l.map (fun x => x &&& 0x0FFF#16)
      = l.map id := List.map_congr_left fun x hx => and_sampleMask_of_lt (hsamples x hx)
    _ = l := List.map_id l

end Sys2Proof.Machine
end

-- ==== Proofs: RESHAPE and DECODE_FRAME ====
section
/-! The index map of RESHAPE (42_rdif_decoder.md R146, R147, R151). `reshape_eq_map` writes the result as
one list over the places of the frame; a place is read through its digits (l, c, a) or (l, t, r, a), the
places of the source through (l, t, a, r), and the map between the two is onto, so the result is a
permutation. -/

namespace Sys2Proof.Machine

/-! ### Digits -/

theorem div_mod_of_lt {q n r : Nat} (h : r < n) : (q * n + r) / n = q ∧ (q * n + r) % n = r :=
  (Nat.div_mod_unique (by omega)).2 ⟨by rw [Nat.mul_comm n, Nat.add_comm], h⟩

theorem mul_add_lt_mul {q m n r : Nat} (hq : q < m) (hr : r < n) : q * n + r < m * n := by
  rw [Nat.mul_comm q]; exact Nat.mul_add_lt_mul_of_lt_of_lt hq hr

/-- Every place below `m * n` has two digits. -/
theorem exists_digits {m n i : Nat} (h : i < m * n) : ∃ q < m, ∃ r < n, i = q * n + r :=
  have hn : 0 < n := Nat.pos_of_ne_zero fun h0 => by simp [h0] at h
  ⟨i / n, (Nat.div_lt_iff_lt_mul hn).2 h, i % n, Nat.mod_lt _ hn, (Nat.div_add_mod' i n).symm⟩

/-- A list in `m` rows of `n` elements, by rows or by places. -/
theorem flatMap_range_map_range {α : Type} (m n : Nat) (g : Nat → Nat → α) :
    ((List.range m).flatMap fun q => (List.range n).map (g q)) =
      (List.range (m * n)).map fun i => g (i / n) (i % n) := by
  induction m with
  | zero => simp
  | succ m ih =>
    rw [List.range_succ, List.flatMap_append, ih, Nat.succ_mul, List.range_add, List.map_append,
      List.map_map, List.flatMap_singleton]
    congr 1
    refine List.map_congr_left fun r hr => ?_
    obtain ⟨hdiv, hmod⟩ := div_mod_of_lt (q := m) (List.mem_range.1 hr)
    simp only [Function.comp_apply, hdiv, hmod]

/-! ### The index map -/

/-- The place in the array of the element at place `n` of the reshaped frame. -/
def sourceOf (T R A n : Nat) : Nat :=
  reshapeSource T R A (n / (T * R * A)) (n % (T * R * A) / A) (n % (T * R * A) % A)

theorem reshape_eq_map (L T R A : Nat) (u : List Word) :
    reshape L T R A u =
      (List.range (L * (T * R * A))).map fun n => u.getD (sourceOf T R A n) 0#16 := by
  simp only [reshape, flatMap_range_map_range]
  rfl

theorem length_reshape (L T R A : Nat) (u : List Word) :
    (reshape L T R A u).length = L * T * R * A := by
  rw [reshape_eq_map, List.length_map, List.length_range]
  simp only [Nat.mul_assoc]

theorem sourceOf_place {T R A l c a : Nat} (hc : c < T * R) (ha : a < A) :
    sourceOf T R A ((l * (T * R) + c) * A + a) = reshapeSource T R A l c a := by
  have hplace : (l * (T * R) + c) * A + a = l * (T * R * A) + (c * A + a) := by ring
  obtain ⟨hdiv, hmod⟩ := div_mod_of_lt (q := l) (mul_add_lt_mul hc ha)
  obtain ⟨hdiv', hmod'⟩ := div_mod_of_lt (q := c) ha
  rw [sourceOf, hplace, hdiv, hmod, hdiv', hmod']

/-- With the channel index in its digits (t, r). -/
theorem sourceOf_channel {T R A l t r a : Nat} (ht : t < T) (hr : r < R) (ha : a < A) :
    sourceOf T R A ((l * (T * R) + (t * R + r)) * A + a) = ((l * T + t) * A + a) * R + r := by
  obtain ⟨hdiv, hmod⟩ := div_mod_of_lt (q := t) hr
  rw [sourceOf_place (mul_add_lt_mul ht hr) ha, reshapeSource, hdiv, hmod]

theorem place_lt {L T R A l c a : Nat} (hl : l < L) (hc : c < T * R) (ha : a < A) :
    (l * (T * R) + c) * A + a < L * (T * R * A) := by
  rw [← Nat.mul_assoc L]
  exact mul_add_lt_mul (mul_add_lt_mul hl hc) ha

theorem exists_place {L T R A n : Nat} (h : n < L * (T * R * A)) :
    ∃ l < L, ∃ t < T, ∃ r < R, ∃ a < A, n = (l * (T * R) + (t * R + r)) * A + a := by
  rw [← Nat.mul_assoc L] at h
  obtain ⟨m, hm, a, ha, rfl⟩ := exists_digits h
  obtain ⟨l, hl, c, hc, rfl⟩ := exists_digits hm
  obtain ⟨t, ht, r, hr, rfl⟩ := exists_digits hc
  exact ⟨l, hl, t, ht, r, hr, a, ha, rfl⟩

/-- Every place of the array is the source of a place of the frame. -/
theorem exists_sourceOf_eq {L T R A m : Nat} (h : m < L * (T * R * A)) :
    ∃ n < L * (T * R * A), sourceOf T R A n = m := by
  have hcount : L * (T * R * A) = L * T * A * R := by ring
  rw [hcount] at h
  obtain ⟨lta, hlta, r, hr, rfl⟩ := exists_digits h
  obtain ⟨lt, hlt, a, ha, rfl⟩ := exists_digits hlta
  obtain ⟨l, hl, t, ht, rfl⟩ := exists_digits hlt
  exact ⟨_, place_lt hl (mul_add_lt_mul ht hr) ha, sourceOf_channel ht hr ha⟩

theorem sourceOf_lt {L T R A n : Nat} (h : n < L * (T * R * A)) :
    sourceOf T R A n < L * (T * R * A) := by
  obtain ⟨l, hl, t, ht, r, hr, a, ha, rfl⟩ := exists_place h
  have hcount : L * (T * R * A) = L * T * A * R := by ring
  rw [sourceOf_channel ht hr ha, hcount]
  exact mul_add_lt_mul (mul_add_lt_mul (mul_add_lt_mul hl ht) ha) hr

/-- With one receive channel or one sample per chirp nothing moves. -/
theorem sourceOf_of_one {L T R A n : Nat} (h : n < L * (T * R * A)) (hone : R = 1 ∨ A = 1) :
    sourceOf T R A n = n := by
  obtain ⟨l, hl, t, ht, r, hr, a, ha, rfl⟩ := exists_place h
  rw [sourceOf_channel ht hr ha]
  rcases hone with rfl | rfl
  · obtain rfl : r = 0 := by omega
    ring
  · obtain rfl : a = 0 := by omega
    ring

/-! ### The reshaped array -/

section
variable {L T R A : Nat} {u : List Word} (hu : u.length = L * T * R * A)
include hu

theorem map_getD_range : (List.range (L * (T * R * A))).map (fun n => u.getD n 0#16) = u := by
  have hsize : L * (T * R * A) = u.length := by rw [hu]; simp only [Nat.mul_assoc]
  rw [hsize]
  refine List.ext_getElem (by simp) fun i _ hi => ?_
  simp [hi]

theorem reshape_perm : (reshape L T R A u).Perm u := by
  have hall : List.range (L * (T * R * A)) ⊆
      (List.range (L * (T * R * A))).map (sourceOf T R A) := by
    intro m hm
    obtain ⟨n, hn, rfl⟩ := exists_sourceOf_eq (List.mem_range.1 hm)
    exact List.mem_map_of_mem (List.mem_range.2 hn)
  have hperm : (List.range (L * (T * R * A))).Perm
      ((List.range (L * (T * R * A))).map (sourceOf T R A)) :=
    (List.nodup_range.subperm hall).perm_of_length_le (by simp)
  calc reshape L T R A u
      = ((List.range (L * (T * R * A))).map (sourceOf T R A)).map (fun m => u.getD m 0#16) := by
        rw [reshape_eq_map, List.map_map]; rfl
    List.Perm _ ((List.range (L * (T * R * A))).map (fun m => u.getD m 0#16)) := (hperm.map _).symm
    _ = u := map_getD_range hu

theorem reshape_of_one (hone : R = 1 ∨ A = 1) : reshape L T R A u = u := by
  refine Eq.trans ?_ (map_getD_range hu)
  rw [reshape_eq_map]
  exact List.map_congr_left fun n hn => by rw [sourceOf_of_one (List.mem_range.1 hn) hone]

theorem getElem?_reshape {n : Nat} (hn : n < L * (T * R * A)) :
    (reshape L T R A u)[n]? = u[sourceOf T R A n]? := by
  have hsource : sourceOf T R A n < u.length := by
    have := sourceOf_lt hn
    rw [hu]; simpa only [Nat.mul_assoc] using this
  simp [reshape_eq_map, hn, hsource]

end

theorem exec_reshape_of_legal {s : State} {u : List Word} (hgeometry : s.geometryValid = true)
    (hu : u.length = s.samplesPerFrame) :
    exec (.reshape u) s = .next (s.respond (.words
      (reshape s.numLoops.toNat s.numTx.toNat s.numRx.toNat s.numAdc.toNat u))) := by
  have hroom : ¬s.cfg.maxFrameSamples < u.length := by
    obtain ⟨-, -, -, -, hmax⟩ := s.geometryValid_iff.1 hgeometry
    omega
  rw [hu] at hroom
  simp [exec, execReshape, hroom, hgeometry, hu]

/-- Settles O33. -/
theorem reshapeMovesWords : Obligations.ReshapeMovesWords := by
  intro s u hgeometry hu
  refine ⟨_, exec_reshape_of_legal hgeometry hu, ?_, reshape_perm hu, fun l t r a hl ht hr ha => ?_,
    reshape_of_one hu⟩
  · rw [length_reshape]; exact hu.symm
  · rw [getElem?_reshape hu (place_lt hl (mul_add_lt_mul ht hr) ha), sourceOf_channel ht hr ha]

/-! ### DECODE_FRAME -/

theorem toNat_getD_unswizzle_lt (w : List Word) (n : Nat) :
    ((unswizzle w).getD n 0#16).toNat < 4096 := by
  rcases Nat.lt_or_ge n (unswizzle w).length with hn | hn
  · rw [List.getD_eq_getElem _ _ hn]
    exact toNat_lt_of_mem_unswizzle (List.getElem_mem hn)
  · rw [List.getD_eq_default _ _ hn]
    decide

theorem State.length_decodeFrame (s : State) (w : List Word) :
    (s.decodeFrame w).length = s.samplesPerFrame := by
  rw [State.decodeFrame, List.length_map, length_reshape]
  rfl

/-- An element of a decoded frame is the signed value of its unswizzled word. -/
theorem State.toInt_getD_decodeFrame (s : State) (w : List Word) {n : Nat}
    (hn : n < s.samplesPerFrame) :
    ((s.decodeFrame w).getD n 0#16).toInt =
      sconv ((unswizzle w).getD (sourceOf s.numTx.toNat s.numRx.toNat s.numAdc.toNat n) 0#16) := by
  have hplace : n < s.numLoops.toNat * (s.numTx.toNat * s.numRx.toNat * s.numAdc.toNat) := by
    simpa only [State.samplesPerFrame, Nat.mul_assoc] using hn
  rw [← toInt_signWord (Nat.le_of_lt_succ (toNat_getD_unswizzle_lt w _)), State.decodeFrame,
    reshape_eq_map]
  congr 1
  simp [hplace]

theorem exec_decodeFrame_of_legal {s : State} {w : List Word} (hgeometry : s.geometryValid = true)
    (hw : w.length = s.samplesPerFrame) (hblocks : w.length % 4 = 0) :
    exec (.decodeFrame w) s = .next (s.respond (.words (s.decodeFrame w))) := by
  have hroom : ¬s.cfg.maxFrameSamples < w.length := by
    obtain ⟨-, -, -, -, hmax⟩ := s.geometryValid_iff.1 hgeometry
    omega
  rw [hw] at hblocks hroom
  simp [exec, execDecodeFrame, hroom, hblocks, hgeometry, hw]

/-- Settles O35: DECODE_FRAME and decode and publish apply the same `State.decodeFrame`. -/
theorem decodeFrameElements : Obligations.DecodeFrameElements := by
  intro s w hgeometry hw hblocks
  refine ⟨s.decodeFrame w, exec_decodeFrame_of_legal hgeometry hw hblocks, s.length_decodeFrame w,
    ?_, fun fid hopen hroom => ?_⟩
  · rintro l c a v hl hc ha rfl
    have hn : (l * (s.numTx.toNat * s.numRx.toNat) + c) * s.numAdc.toNat + a < s.samplesPerFrame := by
      simpa only [State.samplesPerFrame, Nat.mul_assoc] using place_lt hl hc ha
    rw [s.toInt_getD_decodeFrame w hn, sourceOf_place hc ha]
    rfl
  · rw [State.pipelineOut_of_decodable (hw ▸ hblocks), State.publish_of_room hopen hroom]
    rfl

end Sys2Proof.Machine
end

-- ==== Proofs: how a step keeps an invariant ====
section
/-! A step is made of a few parts: the reset event, the time check, the effects of `exec_case`, and a
response. `Kept P` says of each part that it keeps `P`, so that every step does (`Kept.step`); `OpKept P`
leaves the reset event out, `AcceptKept P` says so of the time check only, and `PipelineKept P` of each
pipeline effect. An invariant is then proved part by part. -/

namespace Sys2Proof.Machine

/-- The capture loop is on, in a publish or not. -/
def State.inLoop (s : State) : Prop := s.pipeState = .running ∨ s.pipeState = .publishBlocked

/-- Every pipeline effect keeps `P`. -/
structure PipelineKept (P : State → Prop) : Prop where
  written : ∀ s r v, (regAccess r = .lock → s.pipeState = .idle) → P s → P (s.writeReg r v)
  launch : ∀ s, s.pipeState = .idle → s.geometryValid = true → P s → P s.launch
  requestStop : ∀ s, P s → P s.requestStop
  takeHead : ∀ s f rest, s.outq = f :: rest → P s → P (s.takeHead rest)
  walked : ∀ s d, s.pipeState = .running → P s → P (s.walked d)
  discarded : ∀ s n, P s → P { s with discardTotal := n }
  evicted : ∀ s timeout, P s → P (s.evictStale timeout)
  undecoded : ∀ s, P s → P (s.setErr .invalidBlockLength)
  published : ∀ s fid w, s.inLoop → P s → P (s.publish ⟨fid, s.decodeFrame w⟩)

/-- Decode and publish go on inside the loop. -/
theorem State.inLoop_pipelineOut {s : State} (h : s.inLoop) (f : Nat × List Word) :
    (s.pipelineOut f).inLoop := by
  rcases (s.pipelineOut_same f).pipeState with hsame | hblocked
  · rwa [State.inLoop, hsame]
  · exact .inr hblocked

theorem PipelineKept.effect {P : State → Prop} (h : PipelineKept P) {s u : State} {i : Instr}
    (heffect : PipelineEffect s i u) (hs : P s) : P u := by
  cases heffect with
  | unchanged => exact hs
  | written v _ hlock => exact h.written s _ v hlock hs
  | launched hidle hgeometry => exact h.launch s hidle hgeometry hs
  | stopAsked => exact h.requestStop s hs
  | popped hq => exact h.takeHead s _ _ hq hs
  | walked hrunning => exact h.walked s _ hrunning hs
  | evicted => exact h.evicted s _ hs
  | @emitted d hrunning =>
    have hcounted : P ((s.walked d).countDiscards (s.datagramWalk d).completed) := by
      rcases (s.walked d).countDiscards_cases (s.datagramWalk d).completed with ⟨-, hc⟩ | ⟨-, hc⟩ <;>
        rw [hc]
      · exact h.walked s d hrunning hs
      · exact h.discarded _ _ (h.walked s d hrunning hs)
    have hloop : (s.emitting d).inLoop := by rw [State.emitting_eq]; exact .inl hrunning
    refine (State.pipelineOut_foldl_keeps (P := fun t => P t ∧ t.inLoop) (fun t f ht => ?_) _
      ⟨h.evicted _ _ hcounted, hloop⟩).1
    refine ⟨?_, State.inLoop_pipelineOut ht.2 f⟩
    rcases t.pipelineOut_cases f with ⟨-, hout⟩ | ⟨-, hout⟩ <;> rw [hout]
    · exact h.undecoded t ht.1
    · exact h.published t _ _ ht.2 ht.1

/-- Every part of the time check keeps `P`. -/
structure AcceptKept (P : State → Prop) : Prop where
  sampled : ∀ s rest (now : Time), s.now.toNat ≤ now.toNat → P s →
    P { s with input := rest, now := now }
  errSet : ∀ s e, P s → P (s.setErr e)
  waitEnded : ∀ s o, s.cliState = .wait → P s → P (s.finishWait o)
  readTimeout : ∀ s, s.pipeState = .running → P s →
    P { s with pipeState := .stopped, stopReason := .protocolTimeout }

theorem AcceptKept.accept {P : State → Prop} (h : AcceptKept P) {s : State} (hs : P s)
    (rest : List Event) {now : Time} (ht : s.now.toNat ≤ now.toNat) : P (s.accept rest now) := by
  have hsampled := h.sampled s rest now ht hs
  rw [State.accept, State.timeCheck]
  generalize ({ s with input := rest, now := now } : State) = t at hsampled ⊢
  have hcli : P t.cliTimeoutCheck := by
    rcases t.cliTimeoutCheck_cases with ⟨hwait, -, hc⟩ | ⟨-, hc⟩ <;> rw [hc]
    · exact h.waitEnded t _ hwait hsampled
    · exact hsampled
  rcases t.cliTimeoutCheck.readTimeoutCheck_cases with ⟨hrunning, -, hc⟩ | ⟨-, hc⟩ <;> rw [hc]
  · exact h.errSet _ _ (h.readTimeout _ hrunning hcli)
  · exact hcli

/-- Every part of a step on an operation keeps `P`. -/
structure OpKept (P : State → Prop) : Prop extends AcceptKept P where
  answered : ∀ s r, P s → P (s.answer r)
  malformed : ∀ s, s.pipeState = .running → P s → P s.stopMalformed
  pipeline : ∀ s i u, PipelineEffect s i u → P s → P u
  cli : ∀ s i u, CliEffect s i u → P s → P u

theorem OpKept.exec {P : State → Prop} (h : OpKept P) {s t : State} {i : Instr} (hs : P s)
    (hcase : ExecCase s i t) : P t := by
  cases hcase with
  | pipeline d heffect => exact h.answered _ _ (h.pipeline s i _ heffect hs)
  | cli heffect => exact h.answered _ _ (h.cli s i _ heffect hs)
  | held => exact h.answered s _ hs
  | raised e => exact h.answered _ _ (h.errSet s e hs)
  | stoppedMalformed hrunning _ =>
    exact h.answered _ _ (h.errSet _ _ (h.malformed s hrunning hs))

/-- A step on an operation: the time check, then an error of the decoder or the operation. -/
theorem step_op_cases {s t : State} {o : Operation} {rest : List Event}
    (hin : s.input = .op o :: rest) (hnext : step s = .next t) :
    s.now.toNat ≤ o.now.toNat ∧
      ((∃ e, t = (s.accept rest o.now).raise e) ∨
        ∃ i, decode o.cmd o.arg = .ok i ∧ ExecCase (s.accept rest o.now) i t) := by
  rcases Nat.lt_or_ge o.now.toNat s.now.toNat with ht | ht
  · simp [step_of_reversed hin ht] at hnext
  refine ⟨ht, ?_⟩
  cases hd : decode o.cmd o.arg with
  | error e =>
    rw [step_of_undecoded hin ht hd] at hnext
    cases hnext
    exact .inl ⟨_, rfl⟩
  | ok i =>
    rw [step_of_decoded hin ht hd] at hnext
    exact .inr ⟨i, rfl, exec_case hnext⟩

theorem OpKept.step_op {P : State → Prop} (h : OpKept P) {s t : State} {o : Operation}
    {rest : List Event} (hin : s.input = .op o :: rest) (hnext : step s = .next t) (hs : P s) :
    P t := by
  obtain ⟨ht, ⟨e, rfl⟩ | ⟨i, -, hcase⟩⟩ := step_op_cases hin hnext
  · exact h.answered _ _ (h.errSet _ _ (h.accept hs rest ht))
  · exact h.exec (h.accept hs rest ht) hcase

/-- Every part of a step keeps `P`. -/
structure Kept (P : State → Prop) : Prop extends OpKept P where
  reset : ∀ s rest, P s → P (s.takeReset rest)

theorem Kept.step {P : State → Prop} (h : Kept P) (s t : State) (hs : P s)
    (hnext : step s = .next t) : P t := by
  rcases hin : s.input with _ | ⟨⟨o⟩ | _, rest⟩
  · rw [step_of_nothing hin] at hnext
    cases hnext
    exact hs
  · exact h.step_op hin hnext hs
  · rw [step_of_reset hin] at hnext
    cases hnext
    exact h.reset s rest hs

/-! ### What a change leaves alone, as an equation -/

theorem SamePipeline.frame {s t : State} (h : SamePipeline s t) :
    t = { s with
      tx := t.tx, err := t.err, cliTimeout := t.cliTimeout, lastSeq := t.lastSeq
      evictTotal := t.evictTotal, outDropTotal := t.outDropTotal, discardTotal := t.discardTotal
      framesOutTotal := t.framesOutTotal, cliState := t.cliState, cliJob := t.cliJob
      cliOutcome := t.cliOutcome, cliResult := t.cliResult, cliDeadline := t.cliDeadline
      rxBuf := t.rxBuf, cfgLines := t.cfgLines, cfgIdx := t.cfgIdx } := by
  cases s; cases t; cases h; simp_all

/-- REG_WR outside IDLE changes ERR and CLI_TIMEOUT only (10_state.md R23). -/
theorem State.writeReg_of_busy {s : State} {r : Reg} (hbusy : s.pipeState ≠ .idle)
    (hlock : regAccess r = .lock → s.pipeState = .idle) (v : U32) :
    s.writeReg r v =
      { s with err := (s.writeReg r v).err, cliTimeout := (s.writeReg r v).cliTimeout } := by
  cases r
  case ctrl | numTx | numRx | numAdc | numLoops | framePeriod | readTimeout =>
    exact absurd (hlock rfl) hbusy
  all_goals rfl

theorem State.writeReg_frame (s : State) (r : Reg) (v : U32) :
    s.writeReg r v =
      { s with
        err := (s.writeReg r v).err, ctrl := (s.writeReg r v).ctrl
        numTx := (s.writeReg r v).numTx, numRx := (s.writeReg r v).numRx
        numAdc := (s.writeReg r v).numAdc, numLoops := (s.writeReg r v).numLoops
        framePeriod := (s.writeReg r v).framePeriod, cliTimeout := (s.writeReg r v).cliTimeout
        readTimeout := (s.writeReg r v).readTimeout } := by
  cases r <;> rfl

end Sys2Proof.Machine
end

-- ==== Proofs: the reserved fields ====
section
/-! The reserved fields hold 0: every error has a bit below 14, and REG_WR masks what it stores
(10_state.md R23). -/

namespace Sys2Proof.Machine

theorem ReservedZero.resetWith (c : Config) : ReservedZero (State.resetWith c) := by
  constructor <;> simp [State.resetWith]

theorem ReservedZero.setErr {s : State} (h : ReservedZero s) (e : ErrorCode) :
    ReservedZero (s.setErr e) := by
  have hbit : (errorBit e).toNat < 2 ^ 14 := by cases e <;> decide
  refine { h with err := ?_ }
  rw [State.setErr_err, BitVec.toNat_or]
  exact Nat.or_lt_two_pow h.err hbit

theorem ReservedZero.of_samePipeline {s t : State} (h : ReservedZero s) (same : SamePipeline s t) :
    ReservedZero t := by
  have herr : t.err.toNat < 2 ^ 14 := by
    rcases same.err with he | ⟨e, he⟩ <;> rw [he]
    · exact h.err
    · exact (h.setErr e).err
  rw [same.frame]
  exact { h with err := herr }

/-- A masked value stays below the mask's power of two. -/
theorem toNat_and_lt {v m : U32} {k : Nat} (hm : m.toNat < 2 ^ k) : (v &&& m).toNat < 2 ^ k := by
  rw [BitVec.toNat_and]
  exact Nat.and_lt_two_pow _ hm

theorem ReservedZero.writeReg {s : State} (h : ReservedZero s) (r : Reg) (v : U32) :
    ReservedZero (s.writeReg r v) := by
  cases r
  case err =>
    refine { h with err := ?_ }
    show (s.err &&& _).toNat < _
    rw [BitVec.and_comm]
    exact toNat_and_lt h.err
  case ctrl => exact { h with ctrl := toNat_and_lt (by decide) }
  case numTx => exact { h with numTx := toNat_and_lt (by decide) }
  case numRx => exact { h with numRx := toNat_and_lt (by decide) }
  case numAdc => exact { h with numAdc := toNat_and_lt (by decide) }
  case numLoops => exact { h with numLoops := toNat_and_lt (by decide) }
  all_goals exact { h with }

theorem ReservedZero.pipelineKept : PipelineKept ReservedZero where
  written _ r v _ h := h.writeReg r v
  launch _ _ _ h := { h with }
  requestStop s h := by
    rcases s.requestStop_cases with ⟨-, hc⟩ | ⟨-, hc⟩ | ⟨-, hc⟩ <;> rw [hc] <;> exact { h with }
  takeHead s f rest _ h := by
    rcases s.takeHead_cases rest with ⟨-, hc⟩ | ⟨hblocked, hc⟩ <;> rw [hc]
    · exact { h with }
    · rw [State.resumeLoop_drained (s := { s with outq := rest }) hblocked]
      exact { h with }
  walked s d _ h := by
    rcases (s.noteDatagram d).afterWalk_cases (s.datagramWalk d) with ⟨-, hc⟩ | ⟨-, hc⟩ <;>
      rw [State.walked, hc]
    · exact ReservedZero.setErr (s := { s.noteDatagram d with pending := _ }) { h with } _
    · exact { h with }
  discarded _ _ h := { h with }
  evicted _ _ h := { h with }
  undecoded _ h := h.setErr _
  published s fid w _ h := by
    rcases s.publish_cases ⟨fid, s.decodeFrame w⟩ with
      ⟨-, hc⟩ | ⟨-, -, hc⟩ | ⟨-, -, -, hc⟩ | ⟨-, -, -, hc⟩ <;> rw [hc]
    · exact { h with }
    · exact { h with }
    · exact { h.setErr .outputDrop with }
    · exact { h with }

theorem ReservedZero.kept : Kept ReservedZero where
  reset s _ _ := { ReservedZero.resetWith s.cfg with }
  sampled _ _ _ _ h := { h with }
  answered _ _ h := { h with }
  errSet _ e h := h.setErr e
  waitEnded s o _ h := h.of_samePipeline (s.finishWait_same o).samePipeline
  readTimeout _ _ h := { h with }
  malformed _ _ h := { h with }
  pipeline _ _ _ heffect h := ReservedZero.pipelineKept.effect heffect h
  cli _ _ _ heffect h := h.of_samePipeline heffect.samePipeline

/-- Settles O53. -/
theorem stepKeepsReservedZero : Obligations.StepKeepsReservedZero := ReservedZero.kept.step

end Sys2Proof.Machine
end

-- ==== Proofs: the pipeline state ====
section
/-! The pipeline state agrees with its stop reason, its stop request, its held frames and its geometry
(10_state.md R37, R38). -/

namespace Sys2Proof.Machine

theorem PipelineConsistent.resetWith (c : Config) : PipelineConsistent (State.resetWith c) := by
  constructor <;> simp [State.resetWith]

theorem PipelineConsistent.of_samePipeline {s t : State} (h : PipelineConsistent s)
    (same : SamePipeline s t) : PipelineConsistent t := by
  rw [same.frame]; exact { h with }

/-- A state outside the loop: the stop reason says which, nothing is held and no stop is requested. -/
theorem PipelineConsistent.of_outside {s : State} (hout : ¬s.inLoop)
    (hreason : s.stopReason ≠ .none ↔ s.pipeState = .stopped) (hreq : s.stopReq = false)
    (hheld : s.holdq = []) : PipelineConsistent s where
  reason := hreason
  stopRequest h := by simp [hreq] at h
  held := ⟨fun h => absurd hheld h, fun h => absurd (.inr h) hout⟩
  geometry h := absurd h hout

theorem PipelineConsistent.stopReq_of_not_blocked {s : State} (h : PipelineConsistent s)
    (hopen : s.pipeState ≠ .publishBlocked) : s.stopReq = false :=
  Bool.eq_false_iff.2 (mt h.stopRequest hopen)

theorem PipelineConsistent.holdq_of_not_blocked {s : State} (h : PipelineConsistent s)
    (hopen : s.pipeState ≠ .publishBlocked) : s.holdq = [] :=
  not_not.1 (mt h.held.1 hopen)

theorem PipelineConsistent.stopReason_of_not_stopped {s : State} (h : PipelineConsistent s)
    (hgoing : s.pipeState ≠ .stopped) : s.stopReason = .none :=
  not_not.1 (mt h.reason.1 hgoing)

/-- A stop of a pipeline that is not blocked, with its reason. -/
theorem PipelineConsistent.stopped {s : State} (h : PipelineConsistent s)
    (hopen : s.pipeState ≠ .publishBlocked) {r : StopReason} (hr : r ≠ .none) :
    PipelineConsistent { s with pipeState := .stopped, stopReason := r } :=
  .of_outside (by simp [State.inLoop]) (by simp [hr]) (h.stopReq_of_not_blocked hopen)
    (h.holdq_of_not_blocked hopen)

theorem PipelineConsistent.takeHead {s : State} (h : PipelineConsistent s) (rest : List OutFrame) :
    PipelineConsistent (s.takeHead rest) := by
  rcases s.takeHead_cases rest with ⟨-, hc⟩ | ⟨hblocked, hc⟩ <;> rw [hc]
  · exact { h with }
  have hreason : s.stopReason = .none := h.stopReason_of_not_stopped (by simp [hblocked])
  rcases (State.drained { s with outq := rest } _).resumeLoop_cases with
    ⟨hheld, hc⟩ | ⟨hnone, -, hc⟩ | ⟨hnone, hreq, hc⟩ <;> rw [hc]
  · exact { h with held := ⟨fun _ => hblocked, fun _ => hheld⟩ }
  · exact .of_outside (by simp [State.inLoop]) (by simp) rfl hnone
  · refine { reason := ?_, stopRequest := fun hr => ?_, held := ?_, geometry := fun _ => ?_ }
    · simp [State.drained, hreason]
    · exact absurd hr (by simp [hreq])
    · simp [hnone]
    · exact h.geometry (.inr hblocked)

theorem PipelineConsistent.publish {s : State} (h : PipelineConsistent s) (hloop : s.inLoop)
    (f : OutFrame) : PipelineConsistent (s.publish f) := by
  rcases s.publish_cases f with ⟨hblocked, hc⟩ | ⟨-, -, hc⟩ | ⟨-, -, -, hc⟩ | ⟨hopen, -, -, hc⟩ <;>
    rw [hc]
  · exact { h with held := by simp [hblocked] }
  · exact { h with }
  · exact { h with }
  · have hrunning : s.pipeState = .running := hloop.resolve_right hopen
    refine { reason := ?_, stopRequest := fun _ => rfl, held := ?_, geometry := fun _ => ?_ }
    · simp [State.blockOn, h.stopReason_of_not_stopped (by simp [hrunning])]
    · simp [State.blockOn]
    · exact h.geometry hloop

theorem PipelineConsistent.pipelineKept : PipelineKept PipelineConsistent where
  written s r v hlock h := by
    by_cases hidle : s.pipeState = .idle
    · rw [State.writeReg_frame]
      exact { h with geometry := fun hloop => by simp [hidle] at hloop }
    · rw [State.writeReg_of_busy hidle hlock]
      exact { h with }
  launch s hidle hgeometry h :=
    { reason := by simp
      stopRequest := nofun
      held := by simp [h.holdq_of_not_blocked (by simp [hidle])]
      geometry := fun _ => hgeometry }
  requestStop s h := by
    rcases s.requestStop_cases with ⟨hopen, hc⟩ | ⟨hblocked, hc⟩ | ⟨-, hc⟩ <;> rw [hc]
    · exact h.stopped (by rcases hopen with hp | hp <;> simp [hp]) (by decide)
    · exact { h with stopRequest := fun _ => hblocked }
    · exact h
  takeHead _ _ rest _ h := h.takeHead rest
  walked s d _ h := by rw [State.walked_eq]; exact { h with }
  discarded _ _ h := { h with }
  evicted _ _ h := { h with }
  undecoded _ h := { h with }
  published _ _ _ hloop h := h.publish hloop _

theorem PipelineConsistent.kept : Kept PipelineConsistent where
  reset s _ _ := { PipelineConsistent.resetWith s.cfg with }
  sampled _ _ _ _ h := { h with }
  answered _ _ h := { h with }
  errSet _ _ h := { h with }
  waitEnded s o _ h := h.of_samePipeline (s.finishWait_same o).samePipeline
  readTimeout _ hrunning h := h.stopped (by simp [hrunning]) (by decide)
  malformed _ hrunning h :=
    .of_outside (by simp [State.inLoop]) (by simp) rfl
      (h.holdq_of_not_blocked (by simp [hrunning]))
  pipeline _ _ _ heffect h := PipelineConsistent.pipelineKept.effect heffect h
  cli _ _ _ heffect h := h.of_samePipeline heffect.samePipeline

/-- Settles O54. -/
theorem stepKeepsPipelineConsistent : Obligations.StepKeepsPipelineConsistent :=
  PipelineConsistent.kept.step

end Sys2Proof.Machine
end

-- ==== Proofs: the channel's capacity ====
section
/-! The channel holds at most OUT_DEPTH frames and the pipeline is blocked on a full one only
(10_state.md R38). -/

namespace Sys2Proof.Machine

theorem ChannelBounded.resetWith {c : Config} (hc : c.wf = true) :
    ChannelBounded (State.resetWith c) where
  params := hc
  depth := Nat.zero_le _
  full := nofun
  policy := nofun

theorem ChannelBounded.of_samePipeline {s t : State} (h : ChannelBounded s)
    (same : SamePipeline s t) : ChannelBounded t := by
  rw [same.frame]; exact { h with }

theorem Config.outDepth_pos {c : Config} (h : c.wf = true) : 1 ≤ c.outDepth := by
  simp only [Config.wf, Bool.and_eq_true, decide_eq_true_eq] at h
  exact h.1.1.2

theorem ChannelBounded.takeHead {s : State} (h : ChannelBounded s) {f : OutFrame}
    {rest : List OutFrame} (hq : s.outq = f :: rest) : ChannelBounded (s.takeHead rest) := by
  have hrest : rest.length + 1 ≤ s.cfg.outDepth := by
    have := h.depth
    rwa [hq, List.length_cons] at this
  rcases s.takeHead_cases rest with ⟨hopen, hc⟩ | ⟨hblocked, hc⟩ <;> rw [hc]
  · exact { h with depth := (Nat.le_succ _).trans hrest, full := fun hb => absurd hb hopen }
  generalize hk : min s.holdq.length (s.cfg.outDepth - rest.length) = k
  have hlen : (State.drained { s with outq := rest } k).outq.length = rest.length + k := by
    simp only [State.drained, List.length_append, List.length_take]; omega
  have hdepth : (State.drained { s with outq := rest } k).outq.length ≤ s.cfg.outDepth := by
    rw [hlen]; omega
  rcases (State.drained { s with outq := rest } k).resumeLoop_cases with
    ⟨hheld, hc⟩ | ⟨-, -, hc⟩ | ⟨-, -, hc⟩ <;> rw [hc]
  · have hleft : k < s.holdq.length := by simpa [State.drained] using hheld
    exact { h with depth := hdepth, full := fun _ => hlen.trans (by show _ = s.cfg.outDepth; omega) }
  · exact { h with depth := hdepth, full := nofun, policy := nofun }
  · exact { h with depth := hdepth, full := nofun, policy := nofun }

theorem ChannelBounded.publish {s : State} (h : ChannelBounded s) (f : OutFrame) :
    ChannelBounded (s.publish f) := by
  have hpos := Config.outDepth_pos h.params
  have hdepth := h.depth
  rcases s.publish_cases f with
    ⟨-, hc⟩ | ⟨hopen, hroom, hc⟩ | ⟨hopen, -, -, hc⟩ | ⟨-, hfull, hpolicy, hc⟩ <;> rw [hc]
  · exact { h with }
  · exact { h with
      depth := by simpa [State.enqueue] using hroom
      full := fun hb => absurd hb hopen }
  · refine { h with depth := ?_, full := fun hb => absurd hb hopen }
    show (s.outq.drop 1 ++ [f]).length ≤ s.cfg.outDepth
    simp only [List.length_append, List.length_drop, List.length_singleton]
    omega
  · exact { h with
      full := fun _ => Nat.le_antisymm hdepth hfull
      policy := fun _ => hpolicy }

theorem ChannelBounded.pipelineKept : PipelineKept ChannelBounded where
  written s r v hlock h := by
    by_cases hidle : s.pipeState = .idle
    · rw [State.writeReg_frame]
      exact { h with policy := fun hb => by simp [hidle] at hb }
    · rw [State.writeReg_of_busy hidle hlock]
      exact { h with }
  launch _ _ _ h := { h with full := nofun, policy := nofun }
  requestStop s h := by
    rcases s.requestStop_cases with ⟨-, hc⟩ | ⟨-, hc⟩ | ⟨-, hc⟩ <;> rw [hc]
    · exact { h with full := nofun, policy := nofun }
    · exact { h with }
    · exact h
  takeHead _ _ _ hq h := h.takeHead hq
  walked s d _ h := by rw [State.walked_eq]; exact { h with }
  discarded _ _ h := { h with }
  evicted _ _ h := { h with }
  undecoded _ h := { h with }
  published _ _ _ _ h := h.publish _

theorem ChannelBounded.kept : Kept ChannelBounded where
  reset _ _ h := { ChannelBounded.resetWith h.params with }
  sampled _ _ _ _ h := { h with }
  answered _ _ h := { h with }
  errSet _ _ h := { h with }
  waitEnded s o _ h := h.of_samePipeline (s.finishWait_same o).samePipeline
  readTimeout _ _ h := { h with full := nofun, policy := nofun }
  malformed _ _ h := { h with full := nofun, policy := nofun }
  pipeline _ _ _ heffect h := ChannelBounded.pipelineKept.effect heffect h
  cli _ _ _ heffect h := h.of_samePipeline heffect.samePipeline

/-- Settles O55. -/
theorem stepKeepsChannelBounded : Obligations.StepKeepsChannelBounded := ChannelBounded.kept.step

end Sys2Proof.Machine
end

-- ==== Proofs: the frames of the channel ====
section
/-! Every frame of the channel is a decoded frame (10_state.md R38, 42_rdif_decoder.md R152). Only decode
and publish brings a frame in, and the geometry does not change while there is one. -/

namespace Sys2Proof.Machine

/-- A DecodedFrame of `S` words. -/
def IsDecoded (S : Nat) (frame : List Word) : Prop :=
  frame.length = S ∧ ∀ v ∈ frame, -2048 ≤ v.toInt ∧ v.toInt ≤ 2047

theorem toInt_signWord_range {v : Word} (hv : v.toNat < 4096) :
    -2048 ≤ (signWord v).toInt ∧ (signWord v).toInt ≤ 2047 := by
  rw [toInt_signWord (Nat.le_of_lt_succ hv), sconv]
  omega

theorem State.isDecoded_decodeFrame (s : State) (w : List Word) :
    IsDecoded s.samplesPerFrame (s.decodeFrame w) := by
  refine ⟨s.length_decodeFrame w, fun v hv => ?_⟩
  rw [State.decodeFrame, reshape_eq_map, List.map_map] at hv
  obtain ⟨n, -, rfl⟩ := List.mem_map.1 hv
  exact toInt_signWord_range (toNat_getD_unswizzle_lt w _)

theorem FramesDecoded.isDecoded {s : State} (h : FramesDecoded s) {f : OutFrame}
    (hf : f ∈ s.outq ++ s.holdq) : IsDecoded s.samplesPerFrame f.frame :=
  ⟨h.shape f hf, h.range f hf⟩

/-- Outside IDLE: no frame that is not decoded has come in. -/
theorem FramesDecoded.of_frames {s t : State} (h : FramesDecoded s)
    (hS : t.samplesPerFrame = s.samplesPerFrame)
    (hframes : ∀ f ∈ t.outq ++ t.holdq,
      f ∈ s.outq ++ s.holdq ∨ IsDecoded s.samplesPerFrame f.frame)
    (hidle : t.pipeState ≠ .idle) : FramesDecoded t := by
  have hall : ∀ f ∈ t.outq ++ t.holdq, IsDecoded t.samplesPerFrame f.frame := by
    intro f hf
    rw [hS]
    exact (hframes f hf).elim h.isDecoded id
  exact ⟨fun f hf => (hall f hf).1, fun f hf => (hall f hf).2, fun hi => absurd hi hidle⟩

/-- With no frame at all. -/
theorem FramesDecoded.of_empty {s : State} (houtq : s.outq = []) (hholdq : s.holdq = []) :
    FramesDecoded s where
  shape := by simp [houtq, hholdq]
  range := by simp [houtq, hholdq]
  idle _ := ⟨houtq, hholdq⟩

theorem FramesDecoded.resetWith (c : Config) : FramesDecoded (State.resetWith c) :=
  .of_empty rfl rfl

theorem FramesDecoded.of_samePipeline {s t : State} (h : FramesDecoded s)
    (same : SamePipeline s t) : FramesDecoded t := by
  rw [same.frame]; exact { h with }

theorem FramesDecoded.takeHead {s : State} (h : FramesDecoded s) {f : OutFrame}
    {rest : List OutFrame} (hq : s.outq = f :: rest) : FramesDecoded (s.takeHead rest) := by
  have hbusy : s.pipeState ≠ .idle := fun hidle => by simp [(h.idle hidle).1] at hq
  rcases s.takeHead_cases rest with ⟨-, hc⟩ | ⟨hblocked, hc⟩ <;> rw [hc]
  · exact h.of_frames rfl (fun g hg => .inl (by rw [hq]; exact List.mem_cons_of_mem _ hg)) hbusy
  generalize min s.holdq.length (s.cfg.outDepth - rest.length) = k
  have hsame : (rest ++ s.holdq.take k) ++ s.holdq.drop k = rest ++ s.holdq := by
    rw [List.append_assoc, List.take_append_drop]
  have hframes : ∀ g ∈ (rest ++ s.holdq.take k) ++ s.holdq.drop k,
      g ∈ s.outq ++ s.holdq ∨ IsDecoded s.samplesPerFrame g.frame := by
    rw [hsame, hq]
    exact fun g hg => .inl (List.mem_cons_of_mem _ hg)
  rcases (State.drained { s with outq := rest } k).resumeLoop_cases with
    ⟨-, hc⟩ | ⟨-, -, hc⟩ | ⟨-, -, hc⟩ <;> rw [hc]
  · exact h.of_frames rfl hframes hbusy
  · exact h.of_frames rfl hframes nofun
  · exact h.of_frames rfl hframes nofun

theorem FramesDecoded.publish {s : State} (h : FramesDecoded s) (hloop : s.inLoop) {f : OutFrame}
    (hf : IsDecoded s.samplesPerFrame f.frame) : FramesDecoded (s.publish f) := by
  have hbusy : s.pipeState ≠ .idle := by rcases hloop with hp | hp <;> simp [hp]
  rcases s.publish_cases f with ⟨-, hc⟩ | ⟨-, -, hc⟩ | ⟨-, -, -, hc⟩ | ⟨-, -, -, hc⟩ <;> rw [hc]
  · refine h.of_frames rfl (fun g hg => ?_) hbusy
    rcases (by simpa [or_assoc] using hg : g ∈ s.outq ∨ g ∈ s.holdq ∨ g = f) with hg | hg | rfl
    · exact .inl (List.mem_append_left _ hg)
    · exact .inl (List.mem_append_right _ hg)
    · exact .inr hf
  · refine h.of_frames rfl (fun g hg => ?_) hbusy
    rcases (by simpa [State.enqueue] using hg : g ∈ s.outq ∨ g = f ∨ g ∈ s.holdq) with hg | rfl | hg
    · exact .inl (List.mem_append_left _ hg)
    · exact .inr hf
    · exact .inl (List.mem_append_right _ hg)
  · refine h.of_frames rfl (fun g hg => ?_) hbusy
    rcases (by simpa [State.enqueue] using hg :
      g ∈ s.outq.drop 1 ∨ g = f ∨ g ∈ s.holdq) with hg | rfl | hg
    · exact .inl (List.mem_append_left _ (List.mem_of_mem_drop hg))
    · exact .inr hf
    · exact .inl (List.mem_append_right _ hg)
  · refine h.of_frames rfl (fun g hg => ?_) nofun
    rcases (by simpa [State.blockOn] using hg : g ∈ s.outq ∨ g = f) with hg | rfl
    · exact .inl (List.mem_append_left _ hg)
    · exact .inr hf

theorem FramesDecoded.pipelineKept : PipelineKept FramesDecoded where
  written s r v hlock h := by
    by_cases hidle : s.pipeState = .idle
    · obtain ⟨houtq, hholdq⟩ := h.idle hidle
      rw [State.writeReg_frame]
      exact .of_empty houtq hholdq
    · rw [State.writeReg_of_busy hidle hlock]
      exact { h with }
  launch _ _ _ h := { h with idle := nofun }
  requestStop s h := by
    rcases s.requestStop_cases with ⟨-, hc⟩ | ⟨-, hc⟩ | ⟨-, hc⟩ <;> rw [hc]
    · exact { h with idle := nofun }
    · exact { h with }
    · exact h
  takeHead _ _ _ hq h := h.takeHead hq
  walked s d _ h := by rw [State.walked_eq]; exact { h with }
  discarded _ _ h := { h with }
  evicted _ _ h := { h with }
  undecoded _ h := { h with }
  published s _ w hloop h := h.publish hloop (s.isDecoded_decodeFrame w)

theorem FramesDecoded.kept : Kept FramesDecoded where
  reset s _ _ := { FramesDecoded.resetWith s.cfg with }
  sampled _ _ _ _ h := { h with }
  answered _ _ h := { h with }
  errSet _ _ h := { h with }
  waitEnded s o _ h := h.of_samePipeline (s.finishWait_same o).samePipeline
  readTimeout _ _ h := { h with idle := nofun }
  malformed _ _ h := { h with idle := nofun }
  pipeline _ _ _ heffect h := FramesDecoded.pipelineKept.effect heffect h
  cli _ _ _ heffect h := h.of_samePipeline heffect.samePipeline

/-- Settles O56. -/
theorem stepKeepsFramesDecoded : Obligations.StepKeepsFramesDecoded := FramesDecoded.kept.step

end Sys2Proof.Machine
end

-- ==== Proofs: the pending store ====
section
/-! The pending store is canonical, bounded and incomplete (10_state.md R36). The walk keeps this chunk by
chunk: a chunk lies inside its frame, a fresh entry needs room, and what is complete leaves. -/

namespace Sys2Proof.Machine

/-! ### The length of the store -/

theorem length_storeSet_le (p : Store) (fid : Nat) (e : Entry) :
    (storeSet p fid e).length ≤ p.length + 1 := by
  induction p with
  | nil => simp [storeSet]
  | cons q p ih =>
    obtain ⟨k, f⟩ := q
    unfold storeSet
    split_ifs <;> simp only [List.length_cons] <;> omega

/-- A write to a listed frame id replaces its entry, the list being sorted. -/
theorem length_storeSet_of_found {p : Store} (hwf : storeWf p = true) {fid : Nat} {e : Entry}
    (hfound : storeFind p fid = some e) (e' : Entry) : (storeSet p fid e').length = p.length := by
  induction p with
  | nil => simp at hfound
  | cons q p ih =>
    obtain ⟨k, f⟩ := q
    simp only [storeWf, Bool.and_eq_true, List.all_eq_true, decide_eq_true_eq] at hwf
    obtain ⟨hfirst, hrest⟩ := hwf
    rcases Nat.lt_trichotomy fid k with h | rfl | h
    · simp only [storeFind, if_neg h.ne'] at hfound
      exact absurd (hfirst _ (mem_of_storeFind hfound)) h.not_gt
    · simp [storeSet]
    · simp only [storeFind, if_neg h.ne] at hfound
      simp [storeSet, h.not_gt, h.ne', ih hrest hfound]

/-! ### The walk -/

/-- A property of the walk that every chunk of a payload keeps holds after the payload. -/
theorem walkPayload_keeps {cap : Option Nat} {S : Nat} {now : Time} {Q : Store → Prop}
    (hplace : ∀ w c, c.pos + c.words.length ≤ S → Q w.pending →
      Q (placeChunk cap S now w c).pending) {p : Store} (hp : Q p) (soff : Nat)
    (payload : List Word) : Q (walkPayload cap S now p soff payload).pending := by
  have hinside : ∀ c ∈ splitChunks payload.length S soff payload,
      c.pos + c.words.length ≤ S := by
    rcases Nat.eq_zero_or_pos S with rfl | hS
    · cases payload <;> simp [splitChunks]
    · exact fun c hc => (splitChunks_inside hS soff le_rfl c hc).2
  have hfold : ∀ (cs : List Chunk) (w : Walk), (∀ c ∈ cs, c.pos + c.words.length ≤ S) →
      Q w.pending → Q (cs.foldl (placeChunk cap S now) w).pending := by
    intro cs
    induction cs with
    | nil => exact fun w _ hw => hw
    | cons c cs ih =>
      intro w hcs hw
      rw [List.forall_mem_cons] at hcs
      exact ih _ hcs.2 (hplace w c hcs.1 hw)
  exact hfold _ _ hinside hp

/-- What `StoreSound` says of the store itself, with S positions to an entry. -/
structure StoreBounded (cap : Option Nat) (S : Nat) (p : Store) : Prop where
  canonical : storeWf p = true
  capacity : ∀ n ∈ cap, p.length ≤ n
  shape : ∀ q ∈ p, q.2.slots.length = S
  incomplete : ∀ q ∈ p, q.2.complete = false

theorem StoreBounded.filter {cap : Option Nat} {S : Nat} {p : Store} (h : StoreBounded cap S p)
    (keep : Nat × Entry → Bool) : StoreBounded cap S (p.filter keep) where
  canonical := storeWf_filter keep h.canonical
  capacity n hn := (List.length_filter_le _ _).trans (h.capacity n hn)
  shape q hq := h.shape q (List.mem_of_mem_filter hq)
  incomplete q hq := h.incomplete q (List.mem_of_mem_filter hq)

theorem StoreBounded.placeChunk {cap : Option Nat} {S : Nat} (now : Time) (w : Walk) (c : Chunk)
    (hinside : c.pos + c.words.length ≤ S) (h : StoreBounded cap S w.pending) :
    StoreBounded cap S (placeChunk cap S now w c).pending := by
  rcases placeChunk_cases cap S now w c with
    ⟨-, hc⟩ | ⟨e, -, -, hc⟩ | ⟨e, hentry, hopen, hc⟩ <;> rw [hc]
  · exact h
  · exact h.filter _
  have hshape : e.slots.length = S := by
    rcases chunkEntry_some hentry with hfound | ⟨-, -, rfl⟩
    · exact h.shape _ (mem_of_storeFind hfound)
    · exact freshEntry_length S now
  have hwritten := e.writeChunk_length c.pos c.words (hshape ▸ hinside)
  refine ⟨storeSet_wf _ _ h.canonical, fun n hn => ?_, fun q hq => ?_, fun q hq => ?_⟩
  · rcases chunkEntry_some hentry with hfound | ⟨-, hroom, -⟩
    · rw [length_storeSet_of_found h.canonical hfound]
      exact h.capacity n hn
    · have hne : n ≠ w.pending.length := by rintro rfl; exact hroom hn
      have := h.capacity n hn
      have := length_storeSet_le w.pending c.fid (e.writeChunk c.pos c.words)
      show (storeSet _ _ _).length ≤ n
      omega
  · rcases mem_storeSet hq with rfl | hold
    · exact hwritten.trans hshape
    · exact h.shape q hold
  · rcases mem_storeSet hq with rfl | hold
    · exact hopen
    · exact h.incomplete q hold

/-! ### The invariant -/

theorem StoreSound.bounded {s : State} (h : StoreSound s) :
    StoreBounded s.cfg.maxPending s.samplesPerFrame s.pending :=
  ⟨h.canonical, h.capacity, h.shape, h.incomplete⟩

theorem StoreSound.of_bounded {s : State}
    (h : StoreBounded s.cfg.maxPending s.samplesPerFrame s.pending)
    (hidle : s.pipeState = .idle → s.pending = []) : StoreSound s :=
  { h with idle := hidle }

theorem StoreSound.of_empty {s : State} (h : s.pending = []) : StoreSound s := by
  refine .of_bounded ?_ fun _ => h
  rw [h]
  exact ⟨rfl, fun _ _ => Nat.zero_le _, by simp, by simp⟩

theorem StoreSound.resetWith (c : Config) : StoreSound (State.resetWith c) := .of_empty rfl

theorem StoreSound.of_samePipeline {s t : State} (h : StoreSound s) (same : SamePipeline s t) :
    StoreSound t := by
  rw [same.frame]; exact { h with }

theorem StoreSound.takeHead {s : State} (h : StoreSound s) (rest : List OutFrame) :
    StoreSound (s.takeHead rest) := by
  rcases s.takeHead_cases rest with ⟨-, hc⟩ | ⟨hblocked, hc⟩ <;> rw [hc]
  · exact { h with }
  have hbusy : s.pipeState ≠ .idle := by simp [hblocked]
  rcases (State.drained { s with outq := rest } _).resumeLoop_cases with
    ⟨-, hc⟩ | ⟨-, -, hc⟩ | ⟨-, -, hc⟩ <;> rw [hc]
  · exact { h with }
  · exact { h with idle := nofun }
  · exact { h with idle := nofun }

theorem StoreSound.publish {s : State} (h : StoreSound s) (f : OutFrame) :
    StoreSound (s.publish f) := by
  rcases s.publish_cases f with ⟨-, hc⟩ | ⟨-, -, hc⟩ | ⟨-, -, -, hc⟩ | ⟨-, -, -, hc⟩ <;> rw [hc]
  · exact { h with }
  · exact { h with }
  · exact { h with }
  · exact { h with idle := nofun }

theorem StoreSound.pipelineKept : PipelineKept StoreSound where
  written s r v hlock h := by
    by_cases hidle : s.pipeState = .idle
    · rw [State.writeReg_frame]
      exact .of_empty (h.idle hidle)
    · rw [State.writeReg_of_busy hidle hlock]
      exact { h with }
  launch _ _ _ h := { h with idle := nofun }
  requestStop s h := by
    rcases s.requestStop_cases with ⟨-, hc⟩ | ⟨-, hc⟩ | ⟨-, hc⟩ <;> rw [hc]
    · exact { h with idle := nofun }
    · exact { h with }
    · exact h
  takeHead _ _ rest _ h := h.takeHead rest
  walked s d hrunning h := by
    rw [State.walked_eq]
    exact .of_bounded (walkPayload_keeps (StoreBounded.placeChunk s.now) h.bounded _ _)
      fun hidle => by simp [hrunning] at hidle
  discarded _ _ h := { h with }
  evicted s _ h := .of_bounded (h.bounded.filter _) fun hidle => by simp [h.idle hidle]
  undecoded _ h := { h with }
  published _ _ _ _ h := h.publish _

theorem StoreSound.kept : Kept StoreSound where
  reset s _ _ := { StoreSound.resetWith s.cfg with }
  sampled _ _ _ _ h := { h with }
  answered _ _ h := { h with }
  errSet _ _ h := { h with }
  waitEnded s o _ h := h.of_samePipeline (s.finishWait_same o).samePipeline
  readTimeout _ _ h := { h with idle := nofun }
  malformed _ _ h := { h with idle := nofun }
  pipeline _ _ _ heffect h := StoreSound.pipelineKept.effect heffect h
  cli _ _ _ heffect h := h.of_samePipeline heffect.samePipeline

/-- Settles O57. -/
theorem stepKeepsStoreSound : Obligations.StepKeepsStoreSound := StoreSound.kept.step

end Sys2Proof.Machine
end

-- ==== Proofs: the CLI FSM ====
section
/-! The CLI FSM agrees with its job, its cursor and its receive buffer (10_state.md R35, R39). -/

namespace Sys2Proof.Machine

theorem CliConsistent.resetWith (c : Config) : CliConsistent (State.resetWith c) := by
  constructor <;> simp [State.resetWith]

theorem CliConsistent.of_sameCli {s t : State} (h : CliConsistent s) (same : SameCli s t) :
    CliConsistent t where
  waiting := by rw [same.cliState, same.cliJob, same.cliResult]; exact h.waiting
  cursor := by
    rw [same.cliState, same.cliJob, same.cliResult, same.cfgIdx, same.cfgLines]; exact h.cursor
  buffer := by rw [same.rxBuf, same.cfg]; exact h.buffer
  characters := by rw [same.rxBuf]; exact h.characters
  closed := by rw [same.cliState, same.cliJob, same.cliResult, same.rxBuf]; exact h.closed

/-- The next line of a CONFIG job is a line of its text, and the failed line is the one waited for. -/
theorem CliConsistent.configStep {s : State} (h : CliConsistent s) (hwait : s.cliState = .wait)
    (hjob : s.cliJob = .config) (o : CliOutcome) : CliConsistent (s.configStep o) := by
  obtain ⟨hsome, hresult⟩ := h.waiting hwait
  rcases s.configStep_cases o with ⟨l, -, hl, hc⟩ | ⟨-, -, hc⟩ | ⟨-, hc⟩ <;> rw [hc]
  · have hnext : s.cfgIdx + 1 < s.cfgLines.length := (List.getElem?_eq_some_iff.1 hl).1
    exact { h with waiting := fun _ => ⟨hsome, hresult⟩, cursor := fun _ => hnext, closed := nofun }
  · exact { h with waiting := nofun, cursor := by simp [State.endJob], closed := nofun }
  · have hline : s.cfgIdx < s.cfgLines.length := h.cursor ⟨hjob, .inl hwait⟩
    exact { h with waiting := nofun, cursor := fun _ => hline, closed := nofun }

theorem CliConsistent.finishWait {s : State} (h : CliConsistent s) (hwait : s.cliState = .wait)
    (o : CliOutcome) : CliConsistent (s.finishWait o) := by
  rcases s.finishWait_cases o with ⟨hjob, hc⟩ | ⟨hjob, hc⟩ | ⟨hjob, hc⟩ | ⟨hjob, -⟩
  · have hother : s.cliJob ≠ .config := by rcases hjob with hj | hj | hj <;> simp [hj]
    rw [hc]
    exact { h with waiting := nofun, cursor := fun hcfg => absurd hcfg.1 hother, closed := nofun }
  · rw [hc]
    exact CliConsistent.configStep (s := { s with cliOutcome := o }) { h with } hwait hjob o
  · rw [hc]
    exact
      { waiting := nofun
        cursor := by simp [State.closePort, hjob]
        buffer := Nat.zero_le _
        characters := by simp [State.closePort]
        closed := fun _ => ⟨hjob, rfl, rfl⟩ }
  · exact absurd hjob (h.waiting hwait).1

theorem CliConsistent.startConfig {s : State} (h : CliConsistent s) (hidle : s.cliState = .idle)
    (lines : List CfgLine) : CliConsistent (s.startConfig lines) := by
  cases lines with
  | nil =>
    exact
      { h with
        waiting := by simp [State.startConfig, hidle]
        cursor := by simp [State.startConfig, hidle]
        closed := by simp [State.startConfig, hidle] }
  | cons l ls =>
    exact
      { h with
        waiting := fun _ => ⟨nofun, rfl⟩
        cursor := fun _ => Nat.succ_pos _
        closed := nofun }

theorem CliConsistent.emptied {s : State} (h : CliConsistent s) (hopen : s.cliState ≠ .closed) :
    CliConsistent { s with rxBuf := [] } :=
  { h with
    buffer := Nat.zero_le _
    characters := by simp
    closed := fun hc => absurd hc hopen }

theorem CliConsistent.storeChar {s : State} (h : CliConsistent s) (hopen : s.cliState ≠ .closed)
    {b : Byte} (hb : b.toNat < 0x80 ∧ b ≠ byteLF) : CliConsistent (s.storeChar b) := by
  rcases s.storeChar_cases b with ⟨hroom, hc⟩ | ⟨-, hc⟩ <;> rw [hc]
  · refine { h with buffer := ?_, characters := fun x hx => ?_, closed := fun hc => absurd hc hopen }
    · simpa using hroom
    · rcases (by simpa using hx : x ∈ s.rxBuf ∨ x = b) with hx | rfl
      · exact h.characters x hx
      · exact hb
  · exact { h with }

theorem CliConsistent.cliEffect {s u : State} {i : Instr} (h : CliConsistent s)
    (heffect : CliEffect s i u) : CliConsistent u := by
  cases heffect with
  | sent hcommand =>
    obtain ⟨hsome, hother⟩ := job_of_commandOf hcommand
    exact { h with
      waiting := fun _ => ⟨hsome, rfl⟩
      cursor := fun hcfg => absurd hcfg.1 hother
      closed := nofun }
  | configured hidle => exact h.startConfig hidle _
  | lineEnded hopen =>
    rcases s.completeLine_cases with ⟨hwait, -, hc⟩ | ⟨-, hc⟩ <;> rw [hc]
    · exact (h.emptied hopen).finishWait hwait _
    · exact h.emptied hopen
  | received hopen hb => exact h.storeChar hopen hb

theorem CliConsistent.kept : Kept CliConsistent where
  reset s _ _ := { CliConsistent.resetWith s.cfg with }
  sampled _ _ _ _ h := { h with }
  answered _ _ h := { h with }
  errSet _ _ h := { h with }
  waitEnded _ o hwait h := h.finishWait hwait o
  readTimeout _ _ h := { h with }
  malformed _ _ h := { h with }
  pipeline _ _ _ heffect h := h.of_sameCli heffect.sameCli
  cli _ _ _ heffect h := h.cliEffect heffect

/-- Settles O58. -/
theorem stepKeepsCliConsistent : Obligations.StepKeepsCliConsistent := CliConsistent.kept.step

end Sys2Proof.Machine
end

-- ==== Proofs: the time stamps ====
section
/-! The stored time stamps are not ahead of the time (70_reset_and_hazards.md R285): each is set from `now`,
and `now` does not go back. -/

namespace Sys2Proof.Machine

theorem TimesPast.resetWith (c : Config) : TimesPast (State.resetWith c) := by
  constructor <;> simp [State.resetWith]

/-- The deadline is that of a command already sent, or of one sent now. -/
def DeadlineFrom (s t : State) : Prop :=
  t.cliDeadline = s.cliDeadline ∨ t.cliDeadline = s.now.toNat + s.cliTimeout.toNat

theorem State.finishWait_deadline (s : State) (o : CliOutcome) : DeadlineFrom s (s.finishWait o) := by
  rcases s.finishWait_cases o with ⟨-, hc⟩ | ⟨-, hc⟩ | ⟨-, hc⟩ | ⟨-, hc⟩ <;> rw [hc]
  · exact .inl rfl
  · rcases State.configStep_cases { s with cliOutcome := o } o with
      ⟨l, -, -, hc⟩ | ⟨-, -, hc⟩ | ⟨-, hc⟩ <;> rw [hc]
    · exact .inr rfl
    · exact .inl rfl
    · exact .inl rfl
  · exact .inl rfl
  · exact .inl rfl

theorem CliEffect.deadline {s u : State} {i : Instr} (h : CliEffect s i u) : DeadlineFrom s u := by
  cases h with
  | sent => exact .inr rfl
  | @configured text =>
    cases forwardableLines text with
    | nil => exact .inl rfl
    | cons => exact .inr rfl
  | lineEnded =>
    rcases s.completeLine_cases with ⟨-, -, hc⟩ | ⟨-, hc⟩ <;> rw [hc]
    · exact State.finishWait_deadline { s with rxBuf := [] } _
    · exact .inl rfl
  | @received b =>
    rcases s.storeChar_cases b with ⟨-, hc⟩ | ⟨-, hc⟩ <;> rw [hc] <;> exact .inl rfl

theorem TimesPast.of_samePipeline {s t : State} (h : TimesPast s) (same : SamePipeline s t)
    (hdeadline : DeadlineFrom s t) : TimesPast t where
  lastPacket := by rw [same.lastPktTime, same.now]; exact h.lastPacket
  firstSeen := by rw [same.pending, same.now]; exact h.firstSeen
  deadline := by
    have hold := h.deadline
    have hwidth := s.cliTimeout.isLt
    rw [same.now]
    rcases hdeadline with hd | hd <;> omega

/-- An entry that the walk leaves was in the store, or was first seen now. -/
theorem placeChunk_firstSeen {cap : Option Nat} {S : Nat} {now : Time} (w : Walk) (c : Chunk)
    (h : ∀ q ∈ w.pending, q.2.firstSeen.toNat ≤ now.toNat) :
    ∀ q ∈ (placeChunk cap S now w c).pending, q.2.firstSeen.toNat ≤ now.toNat := by
  intro q hq
  rcases placeChunk_cases cap S now w c with
    ⟨-, hc⟩ | ⟨e, -, -, hc⟩ | ⟨e, hentry, -, hc⟩ <;> rw [hc] at hq
  · exact h q hq
  · exact h q (mem_storeErase.1 hq).1
  · rcases mem_storeSet hq with rfl | hold
    · rcases chunkEntry_some hentry with hfound | ⟨-, -, rfl⟩
      · exact h (c.fid, e) (mem_of_storeFind hfound)
      · exact le_rfl
    · exact h q hold

theorem TimesPast.pipelineKept : PipelineKept TimesPast where
  written s r v _ h := by rw [State.writeReg_frame]; exact { h with }
  launch _ _ _ h := { h with lastPacket := le_rfl }
  requestStop s h := by
    rcases s.requestStop_cases with ⟨-, hc⟩ | ⟨-, hc⟩ | ⟨-, hc⟩ <;> rw [hc] <;> exact { h with }
  takeHead s _ rest _ h := by
    rcases s.takeHead_cases rest with ⟨-, hc⟩ | ⟨-, hc⟩ <;> rw [hc]
    · exact { h with }
    rcases (State.drained { s with outq := rest } _).resumeLoop_cases with
      ⟨-, hc⟩ | ⟨-, -, hc⟩ | ⟨-, -, hc⟩ <;> rw [hc]
    · exact { h with }
    · exact { h with }
    · exact { h with lastPacket := le_rfl }
  walked s d _ h := by
    rw [State.walked_eq]
    exact { h with
      lastPacket := le_rfl
      firstSeen := walkPayload_keeps (Q := fun p => ∀ q ∈ p, q.2.firstSeen.toNat ≤ s.now.toNat)
        (fun w c _ => placeChunk_firstSeen w c) h.firstSeen _ _ }
  discarded _ _ h := { h with }
  evicted _ _ h := { h with firstSeen := fun q hq => h.firstSeen q (List.mem_of_mem_filter hq) }
  undecoded _ h := { h with }
  published s fid w _ h := by
    rcases s.publish_cases ⟨fid, s.decodeFrame w⟩ with
      ⟨-, hc⟩ | ⟨-, -, hc⟩ | ⟨-, -, -, hc⟩ | ⟨-, -, -, hc⟩ <;> rw [hc] <;> exact { h with }

theorem TimesPast.kept : Kept TimesPast where
  reset _ _ _ :=
    { lastPacket := Nat.zero_le _
      firstSeen := nofun
      deadline := Nat.lt_add_left _ (Nat.two_pow_pos 32) }
  sampled _ _ _ ht h :=
    { lastPacket := h.lastPacket.trans ht
      firstSeen := fun q hq => (h.firstSeen q hq).trans ht
      deadline := h.deadline.trans_le (Nat.add_le_add_right ht _) }
  answered _ _ h := { h with }
  errSet _ _ h := { h with }
  waitEnded s o _ h :=
    h.of_samePipeline (s.finishWait_same o).samePipeline (s.finishWait_deadline o)
  readTimeout _ _ h := { h with }
  malformed _ _ h := { h with }
  pipeline _ _ _ heffect h := TimesPast.pipelineKept.effect heffect h
  cli _ _ _ heffect h := h.of_samePipeline heffect.samePipeline heffect.deadline

/-- Settles O59. -/
theorem stepKeepsTimesPast : Obligations.StepKeepsTimesPast := TimesPast.kept.step

end Sys2Proof.Machine
end

-- ==== Proofs: reset and quiescent states ====
section
/-! The reset state meets every invariant (10_state.md R42), and no time-out is due in a quiescent state
(44_control.md R228). -/

namespace Sys2Proof.Machine

/-- Settles O60. -/
theorem resetMeetsInvariants : Obligations.ResetMeetsInvariants := fun c =>
  ⟨.resetWith c, .resetWith c, .resetWith, .resetWith c, .resetWith c, .resetWith c, .resetWith c, rfl⟩

theorem State.quiescent_iff (s : State) :
    s.quiescent = true ↔
      (s.pipeState = .idle ∨ s.pipeState = .stopped) ∧ s.cliState ≠ .wait ∧ s.holdq = [] := by
  simp only [State.quiescent, Bool.and_eq_true, Bool.or_eq_true, decide_eq_true_eq,
    List.isEmpty_iff, and_assoc]

/-- Each time-out needs a running pipeline or a waiting command. -/
theorem State.timeCheck_of_quiescent {s : State} (h : s.quiescent = true) : s.timeCheck = s := by
  obtain ⟨hpipe, hcli, -⟩ := s.quiescent_iff.1 h
  have hrunning : s.pipeState ≠ .running := by rcases hpipe with hp | hp <;> simp [hp]
  rw [State.timeCheck, State.cliTimeoutCheck_of_not_due fun hdue => hcli hdue.1,
    State.readTimeoutCheck_of_not_due fun hdue => hrunning hdue.1]

/-- Settles O52: what is presented and when does not make a state less quiescent. -/
theorem quiescentOutlastsTime : Obligations.QuiescentOutlastsTime :=
  fun _ _ _ h => State.timeCheck_of_quiescent h

end Sys2Proof.Machine
end

-- ==== Proofs: steps on an operation ====
section
/-! What a step on an operation may do to the pipeline, the configuration, the store, ERR and a closed
port (44_control.md R219, 70_reset_and_hazards.md R281, 20_memory.md R69, 10_state.md R33,
43_cli_fsm.md R188). -/

namespace Sys2Proof.Machine

/-! ### A closed port -/

theorem CliEffect.not_closed {s u : State} {i : Instr} (h : CliEffect s i u) : s.cliState ≠ .closed := by
  cases h with
  | sent _ hopen | lineEnded hopen | received hopen => exact hopen
  | configured hidle => simp [hidle]

/-- The port is closed in `t`, with everything as in `s`. -/
structure ClosedAs (s t : State) : Prop where
  cliState : t.cliState = .closed
  tx : t.tx = s.tx
  cliJob : t.cliJob = s.cliJob
  cliOutcome : t.cliOutcome = s.cliOutcome
  cliResult : t.cliResult = s.cliResult
  rxBuf : t.rxBuf = s.rxBuf

theorem ClosedAs.of_sameCli {s t u : State} (h : ClosedAs s t) (same : SameCli t u) :
    ClosedAs s u where
  cliState := same.cliState.trans h.cliState
  tx := same.tx.trans h.tx
  cliJob := same.cliJob.trans h.cliJob
  cliOutcome := same.cliOutcome.trans h.cliOutcome
  cliResult := same.cliResult.trans h.cliResult
  rxBuf := same.rxBuf.trans h.rxBuf

theorem ClosedAs.opKept (s : State) : OpKept (ClosedAs s) where
  sampled _ _ _ _ h := { h with }
  errSet _ _ h := { h with }
  waitEnded _ _ hwait h := by have := h.cliState; simp [hwait] at this
  readTimeout _ _ h := { h with }
  answered _ _ h := { h with }
  malformed _ _ h := { h with }
  pipeline _ _ _ heffect h := h.of_sameCli heffect.sameCli
  cli _ _ _ heffect h := absurd h.cliState heffect.not_closed

/-- Settles O47. -/
theorem closedPortStaysClosed : Obligations.ClosedPortStaysClosed := by
  intro s t o rest hin hnext hclosed
  obtain ⟨hstate, htx, hjob, houtcome, hresult, hrx⟩ :=
    (ClosedAs.opKept s).step_op hin hnext ⟨hclosed, rfl, rfl, rfl, rfl, rfl⟩
  exact ⟨hstate, htx, hjob, houtcome, hresult, hrx⟩

/-! ### The configuration -/

/-- The pipeline has left IDLE in `t`, with the locked configuration as in `s`. -/
structure LockedAs (s t : State) : Prop where
  left : t.pipeState ≠ .idle
  numTx : t.numTx = s.numTx
  numRx : t.numRx = s.numRx
  numAdc : t.numAdc = s.numAdc
  numLoops : t.numLoops = s.numLoops
  ctrl : t.ctrl = s.ctrl
  framePeriod : t.framePeriod = s.framePeriod
  readTimeout : t.readTimeout = s.readTimeout

theorem LockedAs.samplesPerFrame {s t : State} (h : LockedAs s t) :
    t.samplesPerFrame = s.samplesPerFrame := by
  simp only [State.samplesPerFrame, h.numTx, h.numRx, h.numAdc, h.numLoops]

theorem LockedAs.of_samePipeline {s t u : State} (h : LockedAs s t) (same : SamePipeline t u) :
    LockedAs s u := by
  rw [same.frame]; exact { h with }

theorem LockedAs.pipelineKept (s : State) : PipelineKept (LockedAs s) where
  written t r v hlock h := by rw [State.writeReg_of_busy h.left hlock]; exact { h with }
  launch _ hidle _ h := absurd hidle h.left
  requestStop t h := by
    rcases t.requestStop_cases with ⟨-, hc⟩ | ⟨-, hc⟩ | ⟨-, hc⟩ <;> rw [hc]
    · exact { h with left := nofun }
    · exact { h with }
    · exact h
  takeHead t _ rest _ h := by
    rcases t.takeHead_cases rest with ⟨-, hc⟩ | ⟨-, hc⟩ <;> rw [hc]
    · exact { h with }
    rcases (State.drained { t with outq := rest } _).resumeLoop_cases with
      ⟨-, hc⟩ | ⟨-, -, hc⟩ | ⟨-, -, hc⟩ <;> rw [hc]
    · exact { h with }
    · exact { h with left := nofun }
    · exact { h with left := nofun }
  walked t d _ h := by rw [State.walked_eq]; exact { h with }
  discarded _ _ h := { h with }
  evicted _ _ h := { h with }
  undecoded _ h := { h with }
  published t fid w _ h := by
    rcases t.publish_cases ⟨fid, t.decodeFrame w⟩ with
      ⟨-, hc⟩ | ⟨-, -, hc⟩ | ⟨-, -, -, hc⟩ | ⟨-, -, -, hc⟩ <;> rw [hc]
    · exact { h with }
    · exact { h with }
    · exact { h with }
    · exact { h with left := nofun }

theorem LockedAs.opKept (s : State) : OpKept (LockedAs s) where
  sampled _ _ _ _ h := { h with }
  errSet _ _ h := { h with }
  waitEnded t o _ h := h.of_samePipeline (t.finishWait_same o).samePipeline
  readTimeout _ _ h := { h with left := nofun }
  answered _ _ h := { h with }
  malformed _ _ h := { h with left := nofun }
  pipeline _ _ _ heffect h := (LockedAs.pipelineKept s).effect heffect h
  cli _ _ _ heffect h := h.of_samePipeline heffect.samePipeline

/-- Settles O48. -/
theorem configurationLocked : Obligations.ConfigurationLocked := by
  intro s t o rest hin hnext hleft
  have hlocked := (LockedAs.opKept s).step_op hin hnext ⟨hleft, rfl, rfl, rfl, rfl, rfl, rfl, rfl⟩
  exact ⟨hlocked.left, hlocked.numTx, hlocked.numRx, hlocked.numAdc, hlocked.numLoops, hlocked.ctrl,
    hlocked.framePeriod, hlocked.readTimeout, hlocked.samplesPerFrame⟩

/-! ### The pending store -/

theorem pending_acceptKept (p : Store) : AcceptKept (fun t => t.pending = p) where
  sampled _ _ _ _ h := h
  errSet _ _ h := h
  waitEnded t o _ h := (t.finishWait_same o).pending.trans h
  readTimeout _ _ h := h

theorem PipelineEffect.pending {s u : State} {i : Instr} (h : PipelineEffect s i u) :
    u.pending = s.pending ∨ (∃ d, i = .pktIn d) ∨ ∃ timeout, i = .evict timeout := by
  cases h with
  | unchanged => exact .inl rfl
  | written => rw [State.writeReg_frame]; exact .inl rfl
  | launched => exact .inl rfl
  | stopAsked => rcases s.requestStop_cases with ⟨-, hc⟩ | ⟨-, hc⟩ | ⟨-, hc⟩ <;> rw [hc] <;> simp
  | @popped f rest =>
    rcases s.takeHead_cases rest with ⟨-, hc⟩ | ⟨hblocked, hc⟩ <;> rw [hc]
    · exact .inl rfl
    · rw [State.resumeLoop_drained (s := { s with outq := rest }) hblocked]
      exact .inl rfl
  | walked | emitted => exact .inr (.inl ⟨_, rfl⟩)
  | evicted timeout => exact .inr (.inr ⟨timeout, rfl⟩)

/-- Settles O49: no other effect touches the store. -/
theorem pendingStoreOwned : Obligations.PendingStoreOwned := by
  intro s t o rest hin hnext hchanged
  obtain ⟨ht, hcase⟩ := step_op_cases hin hnext
  have haccept : (s.accept rest o.now).pending = s.pending :=
    (pending_acceptKept s.pending).accept rfl rest ht
  obtain ⟨e, rfl⟩ | ⟨i, hi, hcase⟩ := hcase
  · exact absurd haccept hchanged
  cases hcase with
  | pipeline d h =>
    rcases h.pending with hp | ⟨d, rfl⟩ | ⟨timeout, rfl⟩
    · exact absurd (hp.trans haccept) hchanged
    · exact .inl ⟨d, hi⟩
    · exact .inr ⟨timeout, hi⟩
  | cli h => exact absurd (h.samePipeline.pending.trans haccept) hchanged
  | held => exact absurd haccept hchanged
  | raised => exact absurd haccept hchanged
  | stoppedMalformed => exact absurd haccept hchanged

/-! ### ERR -/

theorem State.getLsbD_setErr_of_set {s : State} {b : Nat} (h : s.err.getLsbD b = true)
    (e : ErrorCode) : (s.setErr e).err.getLsbD b = true := by
  rw [State.setErr_err, BitVec.getLsbD_or, h, Bool.true_or]

theorem SamePipeline.getLsbD_err_of_set {s t : State} (same : SamePipeline s t) {b : Nat}
    (h : s.err.getLsbD b = true) : t.err.getLsbD b = true := by
  rcases same.err with he | ⟨e, he⟩ <;> rw [he]
  · exact h
  · exact State.getLsbD_setErr_of_set h e

theorem errBit_acceptKept (b : Nat) : AcceptKept (fun t => t.err.getLsbD b = true) where
  sampled _ _ _ _ h := h
  errSet _ e h := State.getLsbD_setErr_of_set h e
  waitEnded t o _ h := (t.finishWait_same o).samePipeline.getLsbD_err_of_set h
  readTimeout _ _ h := h

/-- REG_WR clears the ERR bits that are written as 1 (44_control.md R213). -/
theorem State.getLsbD_err_writeReg {s : State} {b : Nat} (h : s.err.getLsbD b = true) (r : Reg)
    (v : U32) : (s.writeReg r v).err.getLsbD b = true ∨ (r = .err ∧ v.getLsbD b = true) := by
  cases r
  case err =>
    by_cases hv : v.getLsbD b = true
    · exact .inr ⟨rfl, hv⟩
    · have hb : b < 32 := BitVec.lt_of_getLsbD h
      have hkeep : (s.writeReg .err v).err = s.err &&& ~~~(v &&& 0x00003FFF#32) := rfl
      rw [hkeep, BitVec.getLsbD_and, BitVec.getLsbD_not, BitVec.getLsbD_and, h,
        Bool.eq_false_iff.2 hv]
      simp [hb]
  all_goals exact .inl h

theorem State.getLsbD_err_walked {s : State} {b : Nat} (h : s.err.getLsbD b = true) (d : List Byte) :
    (s.walked d).err.getLsbD b = true := by
  rcases (s.noteDatagram d).afterWalk_cases (s.datagramWalk d) with ⟨-, hc⟩ | ⟨-, hc⟩ <;>
    rw [State.walked, hc]
  · exact State.getLsbD_setErr_of_set (s := { s.noteDatagram d with pending := _ }) h _
  · exact h

theorem State.err_emitting (s : State) (d : List Byte) : (s.emitting d).err = (s.walked d).err := by
  rw [State.emitting_eq, State.walked_eq]

theorem PipelineEffect.getLsbD_err {s u : State} {i : Instr} (heffect : PipelineEffect s i u) {b : Nat}
    (h : s.err.getLsbD b = true) :
    u.err.getLsbD b = true ∨ ∃ v : U32, i = .regWr 0x02#8 v ∧ v.getLsbD b = true := by
  cases heffect with
  | unchanged => exact .inl h
  | @written reg r v hreg =>
    rcases s.getLsbD_err_writeReg h r v with hkept | ⟨rfl, hv⟩
    · exact .inl hkept
    · exact .inr ⟨v, by rw [regOfIndex_eq_some_iff.1 hreg]; rfl, hv⟩
  | launched => exact .inl h
  | stopAsked =>
    rcases s.requestStop_cases with ⟨-, hc⟩ | ⟨-, hc⟩ | ⟨-, hc⟩ <;> rw [hc] <;> exact .inl h
  | @popped f rest =>
    rcases s.takeHead_cases rest with ⟨-, hc⟩ | ⟨hblocked, hc⟩ <;> rw [hc]
    · exact .inl h
    · rw [State.resumeLoop_drained (s := { s with outq := rest }) hblocked]
      exact .inl h
  | @walked d => exact .inl (State.getLsbD_err_walked h d)
  | @emitted d =>
    obtain ⟨m, hm⟩ := (State.pipelineOut_foldl_same (s.emittedOf (s.datagramWalk d).completed)
      (s.emitting d)).err
    left
    rw [hm, BitVec.getLsbD_or, s.err_emitting, State.getLsbD_err_walked h d, Bool.true_or]
  | evicted => exact .inl h

/-- Settles O50: ERR bits are only ever or-ed in, but for REG_WR to ERR. -/
theorem errBitsSticky : Obligations.ErrBitsSticky := by
  intro s t o rest b hin hnext hbit
  obtain ⟨ht, hcase⟩ := step_op_cases hin hnext
  have haccept := (errBit_acceptKept b).accept hbit rest ht
  obtain ⟨e, rfl⟩ | ⟨i, hi, hcase⟩ := hcase
  · exact .inl (State.getLsbD_setErr_of_set haccept e)
  cases hcase with
  | pipeline d h =>
    rcases h.getLsbD_err haccept with hkept | ⟨v, rfl, hv⟩
    · exact .inl hkept
    · exact .inr ⟨v, hi, hv⟩
  | cli h => exact .inl (h.samePipeline.getLsbD_err_of_set haccept)
  | held => exact .inl haccept
  | raised e => exact .inl (State.getLsbD_setErr_of_set haccept e)
  | stoppedMalformed =>
    exact .inl (State.getLsbD_setErr_of_set (s := State.stopMalformed _) haccept _)

/-! ### The pipeline state -/

/-- The moves of the pipeline under a decoded command word: what each needs, the state it leads to and
the stop reason there (44_control.md R219). -/
inductive PipeMove (s : State) : Except DecodeError Instr → PipeState → StopReason → Prop
  | stays {w : Except DecodeError Instr} : PipeMove s w s.pipeState s.stopReason
  | starts {r : StopReason} (hidle : s.pipeState = .idle) : PipeMove s (.ok .pipeStart) .running r
  | stops (hfrom : s.pipeState = .idle ∨ s.pipeState = .running) :
      PipeMove s (.ok .pipeStop) .stopped .stopRequested
  | blocks {d : List Byte} {r : StopReason} (hrunning : s.pipeState = .running) :
      PipeMove s (.ok (.pktIn d)) .publishBlocked r
  | fails {d : List Byte} (hrunning : s.pipeState = .running) (hbad : malformed d = true) :
      PipeMove s (.ok (.pktIn d)) .stopped .malformedPacket
  | resumes {r : StopReason} (hblocked : s.pipeState = .publishBlocked) (hreq : s.stopReq = false) :
      PipeMove s (.ok .framePop) .running r
  | exits (hblocked : s.pipeState = .publishBlocked) (hreq : s.stopReq = true) :
      PipeMove s (.ok .framePop) .stopped .stopRequested

theorem PipelineEffect.move {s u : State} {i : Instr} (h : PipelineEffect s i u) :
    PipeMove s (.ok i) u.pipeState u.stopReason := by
  cases h with
  | unchanged => exact .stays
  | written => rw [State.writeReg_frame]; exact .stays
  | launched hidle => exact .starts hidle
  | stopAsked =>
    rcases s.requestStop_cases with ⟨hfrom, hc⟩ | ⟨-, hc⟩ | ⟨-, hc⟩ <;> rw [hc]
    · exact .stops hfrom
    · exact .stays
    · exact .stays
  | @popped f rest =>
    rcases s.takeHead_cases rest with ⟨-, hc⟩ | ⟨hblocked, hc⟩ <;> rw [hc]
    · exact .stays
    rcases (State.drained { s with outq := rest } _).resumeLoop_cases with
      ⟨-, hc⟩ | ⟨-, hreq, hc⟩ | ⟨-, hreq, hc⟩ <;> rw [hc]
    · exact .stays
    · exact .exits hblocked hreq
    · exact .resumes hblocked hreq
  | walked => rw [State.walked_eq]; exact .stays
  | @emitted d hrunning =>
    have same := State.pipelineOut_foldl_same (s.emittedOf (s.datagramWalk d).completed)
      (s.emitting d)
    rcases same.pipeState with hstate | hblocked
    · rw [hstate, same.stopReason, State.emitting_eq]
      exact .stays
    · rw [hblocked]
      exact .blocks hrunning
  | evicted => exact .stays

theorem ExecCase.move {s t : State} {i : Instr} (h : ExecCase s i t) :
    PipeMove s (.ok i) t.pipeState t.stopReason := by
  cases h with
  | pipeline d h => exact h.move
  | cli h =>
    rw [State.respond_pipeState, State.respond_stopReason, h.samePipeline.pipeState,
      h.samePipeline.stopReason]
    exact .stays
  | held => exact .stays
  | raised => exact .stays
  | stoppedMalformed hrunning hbad => exact .fails hrunning hbad

/-- The moves by the state they leave, for a state in which no data-read time-out is due. -/
theorem PipeMove.table {s : State} {w : Except DecodeError Instr} {p : PipeState} {r : StopReason}
    (h : PipeMove s w p r) :
    (s.pipeState = .stopped → p = .stopped ∧ r = s.stopReason) ∧
    (s.pipeState = .idle →
      p = .idle ∨ (p = .running ∧ w = .ok .pipeStart) ∨
      (p = .stopped ∧ r = .stopRequested ∧ w = .ok .pipeStop)) ∧
    (s.pipeState = .running →
      p = .running ∨ (p = .publishBlocked ∧ ∃ d, w = .ok (.pktIn d)) ∨
      (p = .stopped ∧
        ((r = .stopRequested ∧ w = .ok .pipeStop) ∨
          (r = .malformedPacket ∧ ∃ d, w = .ok (.pktIn d) ∧ malformed d = true)))) ∧
    (s.pipeState = .publishBlocked →
      p = .publishBlocked ∨
      (w = .ok .framePop ∧
        ((p = .running ∧ s.stopReq = false) ∨
          (p = .stopped ∧ r = .stopRequested ∧ s.stopReq = true)))) := by
  cases h with
  | stays => exact ⟨fun h => ⟨h, rfl⟩, .inl, .inl, .inl⟩
  | starts hidle => simp [hidle]
  | stops hfrom => rcases hfrom with h | h <;> simp [h]
  | blocks hrunning => simp [hrunning]
  | fails hrunning hbad => simp [hrunning, hbad]
  | resumes hblocked hreq => simp [hblocked, hreq]
  | exits hblocked hreq => simp [hblocked, hreq]

/-- Settles O46: the data-read time-out stops a running pipeline first, and the operation then moves it
along `PipeMove.table`. -/
theorem pipelineTransitions : Obligations.PipelineTransitions := by
  intro s t o rest hin hnext
  have hmove : PipeMove (s.accept rest o.now) (decode o.cmd o.arg) t.pipeState t.stopReason := by
    obtain ⟨-, ⟨e, rfl⟩ | ⟨i, hi, hcase⟩⟩ := step_op_cases hin hnext
    · exact .stays
    · rw [hi]; exact hcase.move
  obtain ⟨hstopped, hidle, hrunning, hblocked⟩ := hmove.table
  by_cases hdue : State.readTimeoutDue { s with input := rest, now := o.now }
  · obtain ⟨hstate, hreason, -⟩ := State.timeCheck_of_readTimeoutDue hdue
    obtain ⟨hp, hr⟩ := hstopped hstate
    have hr' : t.stopReason = .protocolTimeout := hr.trans hreason
    obtain ⟨hrun, hlate⟩ : s.pipeState = .running ∧ _ := hdue
    rw [hrun]
    exact ⟨nofun, nofun, fun _ => .inr (.inr ⟨hp, .inr (.inl ⟨hr', hlate⟩)⟩), nofun⟩
  · obtain ⟨hstate, hreason, -⟩ := State.timeCheck_of_not_readTimeoutDue hdue
    have hstate' : (s.accept rest o.now).pipeState = s.pipeState := hstate
    have hreason' : (s.accept rest o.now).stopReason = s.stopReason := hreason
    have hreq : (s.accept rest o.now).stopReq = s.stopReq := by
      rw [State.accept, State.timeCheck_frame]
    rw [hstate', hreason'] at hstopped
    rw [hstate'] at hidle hrunning hblocked
    rw [hreq] at hblocked
    refine ⟨hstopped, hidle, fun h => ?_, hblocked⟩
    exact (hrunning h).imp_right (Or.imp_right fun ⟨hp, hwhy⟩ => ⟨hp, hwhy.imp_right .inr⟩)

end Sys2Proof.Machine
end
